-- ==== Sys2Proof/Word.lean ====
section
/-! DEFINITION. The words of the CM-40: the bytes of its links, its audio samples and its berth sets
(00_scope.md section 6, R190). -/

namespace Sys2Proof

/-- One byte of the control link, of a lane slot or of a video cell. -/
abbrev Byte := BitVec 8

/-- An audio sample: a signed 16-bit integer in two's complement (00_scope.md 6.2, R190). -/
abbrev Sample := BitVec 16

/-- A berth set: a 40-bit mask in which bit (b-1) stands for berth b (00_scope.md 6.4). -/
abbrev BerthSet := BitVec 40

/-- Berth b is held as the index b-1. -/
abbrev Berth := Fin 40

/-- Lane k is held as the index k-1. -/
abbrev LaneNo := Fin 4

/-- Programme p is held as the index p-1. -/
abbrev ProgrammeNo := Fin 6

/-- Clip c is held as the index c-1. -/
abbrev ClipNo := Fin 64

/-- Stop t is held as the index t-1. -/
abbrev StopNo := Fin 24

end Sys2Proof
end

