-- ==== Sys2Proof/Syntax.lean ====
section
/-! DEFINITION. The commands of the CM-40: one constructor for each row of spec/opcode_table.json.
The operands are what the event or the request carries. Request fields have the widths of R190 and stand
in the order of section 11.7.2, so that every value a frame can carry is an operand. -/

namespace Sys2Proof

/-- The state of the driver's alarm line as sampled (R105). -/
inductive Line where
  | released
  | asserted
  deriving DecidableEq, Repr

/-- The two microphone inputs (R51). -/
inductive Mic where
  | micA
  | micB
  deriving DecidableEq, Repr

/-- The four status fields of an upstream slot (R156). -/
inductive StatusField where
  | headphone
  | call
  | screen
  | knob
  deriving DecidableEq, Repr

/-- An upstream berth slot as it arrives (R156, section 11.7.9): the echoed frame number, the status
byte, the 48 loopback words and the CRC-16 received. -/
structure UpSlot where
  echo     : BitVec 16
  status   : Byte
  loopback : List Sample
  crc      : BitVec 16
  deriving DecidableEq, Repr

/-- The commands: the events on the part's pins and paths, and the host's requests. A request's first
operand is the serial of its link frame (R176). -/
inductive Instr where
  /-- POWER_ON_RESET (R189): the RESET pin. -/
  | powerOnReset
  /-- LANE_FRAME_START (R147), issued by the timer's oscillator. `line` is the alarm line sampled at it (R106). -/
  | laneFrameStart (line : Line)
  /-- PORT_FRAME_STROBE (R147). `line` is the alarm line sampled, should the strobe issue a lane frame start. -/
  | portFrameStrobe (line : Line)
  /-- REFERENCE_LOST (R149). -/
  | referenceLost
  /-- SWITCH_GUARD_EXPIRED (R7) at one berth. -/
  | switchGuardExpired (berth : Berth)
  /-- PROGRAMME_STALL (R28) of one programme. -/
  | programmeStall (programme : ProgrammeNo)
  /-- CELL_ARRIVAL (R24): programme number, entry-point flag and 250 bytes of video. -/
  | cellArrival (programme : Byte) (entry : Bool) (video : List Byte)
  /-- AUDIO_BLOCK_ARRIVAL (R26): programme number, track field, the stereo pairs of each track, and
  whether the arrival was complete before the lane frame start that ends the frame it began in. -/
  | audioBlockArrival (programme trackField : Byte) (tracks : List (List (Sample × Sample))) (complete : Bool)
  /-- MIC_SAMPLE (R51). -/
  | micSample (mic : Mic) (sample : Sample)
  /-- REPEAT_END (R48). -/
  | repeatEnd
  /-- GAP_END (R49). -/
  | gapEnd
  /-- LIVE_TIMEOUT (R52). -/
  | liveTimeout
  /-- PEAK_PERIOD_END (R102). -/
  | peakPeriodEnd
  /-- ALARM_ACCEPTED (R106). -/
  | alarmAccepted
  /-- SECOND_TICK (R115). -/
  | secondTick
  /-- MINUTE_TICK (R115). -/
  | minuteTick
  /-- RING_LIMIT (R139) of the wake entry of one berth. -/
  | ringLimit (berth : Berth)
  /-- LANE_TRAINED (R153). -/
  | laneTrained (lane : LaneNo)
  /-- LANE_SYNC_LOSS (R153). -/
  | laneSyncLoss (lane : LaneNo)
  /-- TRAILER_ARRIVAL (R153): the echoed frame number and the CRC received. -/
  | trailerArrival (lane : LaneNo) (echo crc : BitVec 16)
  /-- UPSTREAM_SLOT (R156) of one berth. -/
  | upstreamSlot (berth : Berth) (slot : UpSlot)
  /-- BERTH_PRESENT (R157). -/
  | berthPresent (berth : Berth)
  /-- BERTH_ABSENT (R157). -/
  | berthAbsent (berth : Berth)
  /-- STATUS_FIELD_ACCEPTED (R158) of one field of one berth. -/
  | statusFieldAccepted (berth : Berth) (field : StatusField)
  /-- AUTO_SNAPSHOT (R171). -/
  | autoSnapshot
  /-- FRAME_RECEIVED (R178): the line bytes up to the one that completes a frame, taken in order. -/
  | frameReceived (bytes : List Byte)
  /-- INTER_BYTE_GAP (R178): more than 2 ms without a byte. -/
  | interByteGap
  /-- UNKNOWN_REQUEST (R180): a request frame of an unassigned kind. -/
  | unknownRequest (kind serial : Byte) (payload : List Byte)
  /-- TRANSMIT_FRAME_DONE (R182). -/
  | transmitFrameDone
  /-- RESTART_RESET (R188). -/
  | restartReset
  /-- STATUS (R187). -/
  | status (serial : Byte)
  /-- RESTART (R188). -/
  | restart (serial : Byte)
  /-- SETTING_SET (R185). -/
  | settingSet (serial number : Byte) (value : BitVec 16)
  /-- SETTING_GET (R186). -/
  | settingGet (serial number : Byte)
  /-- CURVE_SET (R88): 16 values, step 0 first. -/
  | curveSet (serial : Byte) (values : List (BitVec 16))
  /-- CURVE_GET (R88). -/
  | curveGet (serial : Byte)
  /-- ROUTE_SET (R3). -/
  | routeSet (serial : Byte) (berths : BerthSet) (programme language conditioning card cap speaker takeNow : Byte)
  /-- TAKE (R5). -/
  | take (serial : Byte)
  /-- ROUTE_GET (R19). -/
  | routeGet (serial berth : Byte)
  /-- BERTH_STATUS (R20). -/
  | berthStatus (serial berth : Byte)
  /-- PROGRAMME_SET (R32). -/
  | programmeSet (serial programme tracks : Byte)
  /-- PROGRAMME_STATUS (R33). -/
  | programmeStatus (serial programme : Byte)
  /-- REFERENCE_SET (R148). -/
  | referenceSet (serial reference : Byte)
  /-- ANNOUNCE (R41). -/
  | announce (serial id cls origin clip : Byte) (berths : BerthSet) (repeats card : Byte)
  /-- ANN_END (R53). -/
  | annEnd (serial id : Byte)
  /-- ANN_WITHDRAW (R54). -/
  | annWithdraw (serial id : Byte)
  /-- ANN_LIST (R56). -/
  | annList (serial : Byte)
  /-- CLIP_OPEN (R72). -/
  | clipOpen (serial clip variant : Byte) (count : BitVec 32)
  /-- CLIP_DATA (R74). -/
  | clipData (serial clip variant : Byte) (offset : BitVec 32) (count : BitVec 16) (samples : List Sample)
  /-- CLIP_ABORT (R77). -/
  | clipAbort (serial clip variant : Byte)
  /-- CLIP_DELETE (R78). -/
  | clipDelete (serial clip : Byte)
  /-- CLIP_INFO (R80). -/
  | clipInfo (serial clip : Byte)
  /-- CLOCK_SET (R118). -/
  | clockSet (serial day hour minute second : Byte)
  /-- CLOCK_GET (R120). -/
  | clockGet (serial : Byte)
  /-- STOP_SET (R126). -/
  | stopSet (serial stop : Byte) (eta : BitVec 16) (nameClip : Byte)
  /-- STOP_PASSED (R127). -/
  | stopPassed (serial stop : Byte)
  /-- STOP_CLEAR (R128). -/
  | stopClear (serial stop : Byte)
  /-- STOP_LIST (R129). -/
  | stopList (serial : Byte)
  /-- WAKE_SET (R132). -/
  | wakeSet (serial berth stop lead : Byte)
  /-- WAKE_CANCEL (R133). -/
  | wakeCancel (serial berth : Byte)
  /-- WAKE_LIST (R134). -/
  | wakeList (serial : Byte)
  /-- EMERGENCY_CLEAR (R109). -/
  | emergencyClear (serial : Byte)
  /-- LANE_SET (R151). -/
  | laneSet (serial lane enable : Byte)
  /-- LANE_RESET (R152). -/
  | laneReset (serial lane : Byte)
  /-- LANE_TEST_START (R163). -/
  | laneTestStart (serial : Byte) (berths : BerthSet)
  /-- LANE_TEST_STOP (R167). -/
  | laneTestStop (serial : Byte)
  /-- COUNTERS_SNAPSHOT (R172). -/
  | countersSnapshot (serial : Byte)
  /-- COUNTERS_READ (R173). -/
  | countersRead (serial group first count : Byte)
  /-- SYNC_BYTE (R178): a byte 0xA7 arrives on the control link. -/
  | syncByte
  /-- LENGTH_ABOVE_1000 (R178): the two length bytes of a frame in assembly, giving a length above 1000. -/
  | lengthAbove1000 (high low : Byte)
  deriving DecidableEq, Repr

end Sys2Proof
end

