-- ==== Sys2Proof/Decode.lean ====
section
/-! DEFINITION. The opcode table gives no row any bits: no word spells a command. -/

namespace Sys2Proof

/-- The command that a word spells by the table's bits: none, for every row's bits are missing from
spec/opcode_table.json. -/
def decodeTableWord (_nbits _w : Nat) : Option Instr := none

end Sys2Proof
end

