-- ==== Sys2Proof/Config.lean ====
section
/-! DEFINITION. What the spec leaves open and the model leaves free. -/

namespace Sys2Proof.Config

/-- The place of the counter bank's work (R171) among the other blocks' work at one lane frame start,
which R101, R170 and R174 leave open ("in either order"): 0 before every increment of the frame start,
1 after the programme input unit's, 2 after the lane controller's, anything else after the mixer's.
It has no body: nothing can be proved of its value (notes/assumptions/1.md). It is read at
`State.orderCount`. -/
opaque bankPlace : Nat → Nat

end Sys2Proof.Config
end

