-- ==== Sys2Proof/Machine/State.lean ====
section
/-! DEFINITION. The state of the CM-40, block by block (00_scope.md section 3), and its value right after
power-on reset. Each field cites the rule of spec/ that names it. -/

namespace Sys2Proof.Machine

/-! ## Settings (section 11.5) -/

/-- The seventeen settings with their defaults (R185). -/
structure Settings where
  nightStart   : Nat := 1320
  nightEnd     : Nat := 390
  nightCeiling : Nat := 4096
  duckFactor   : Nat := 2048
  stopGain     : Nat := 16384
  serviceGain  : Nat := 16384
  crewGain     : Nat := 23170
  safetyGain   : Nat := 32767
  wakeGain     : Nat := 16384
  repeatGap    : Nat := 1000
  liveLimit    : Nat := 120
  depthLimit   : Nat := 3
  switchGuard  : Nat := 4
  stallLimit   : Nat := 2000
  ringLimit    : Nat := 120
  autoSnapshot : Nat := 1
  alarmFilter  : Nat := 20
  deriving DecidableEq, Repr

/-! ## Berth route table (chapter 1) -/

/-- Treatment of the programme audio (R1). -/
inductive Conditioning where
  | pass
  | silence
  | tone
  deriving DecidableEq, Repr

/-- The six route fields (R1); the defaults are those of R2. -/
structure RouteRecord where
  programme    : Option ProgrammeNo := none
  language     : Fin 4 := 0
  conditioning : Conditioning := .pass
  card         : Option Byte := none
  cap          : Fin 16 := 15
  speaker      : Bool := true
  deriving DecidableEq, Repr

/-- Whether programme video may pass (R9). -/
inductive VideoState where
  | passing
  | waitingEntry
  deriving DecidableEq, Repr

/-- The video mode of a downstream slot (R10). -/
inductive VideoMode where
  | pass
  | hold
  | card
  deriving DecidableEq, Repr

/-- A video cell: its entry-point flag and its 250 bytes (section 2.2). -/
structure VideoCell where
  entry : Bool
  data  : List Byte
  deriving DecidableEq, Repr

/-- What the route table holds for one berth (R1, R2). `mode` is the previous mode of R1 and, with
`card`, the mode and card number derived at the last lane frame start (R19); `cells` are the cells of the
berth's slot in the frame in progress (R13, R14). -/
structure BerthRoute where
  staged : RouteRecord := {}
  active : RouteRecord := {}
  guard  : Nat := 0
  video  : VideoState := .waitingEntry
  mode   : VideoMode := .card
  card   : Byte := 0
  cells  : List VideoCell := []
  deriving DecidableEq, Repr

/-! ## Programme input unit (chapter 2) -/

/-- Whether the source is taken as alive (R23). -/
inductive ProgrammeState where
  | absent
  | running
  | stalled
  deriving DecidableEq, Repr

/-- An audio block: the stereo pairs of each track carried (section 2.3). -/
structure AudioBlock where
  tracks : List (List (Sample × Sample))
  deriving DecidableEq, Repr

/-- The record of one programme (R23). `trackCount` is the declared count and `countInForce` the count in
force for the frame (R31, R32). -/
structure Programme where
  state            : ProgrammeState := .absent
  trackCount       : Nat := 1
  countInForce     : Nat := 1
  interval         : Option Nat := none
  lastInterval     : Option Nat := none
  minInterval      : Option Nat := none
  maxInterval      : Option Nat := none
  receivingCells   : List VideoCell := []
  forwardingCells  : List VideoCell := []
  receivingAudio   : Option AudioBlock := none
  forwardingAudio  : Option AudioBlock := none
  deriving DecidableEq, Repr

/-! ## Voice channel (chapter 3) -/

/-- Urgency of an announcement (R36). -/
inductive AnnClass where
  | stop
  | service
  | crew
  | safety
  deriving DecidableEq, Repr

/-- Source of an announcement's audio (R36). -/
inductive Origin where
  | clip (clip : ClipNo)
  | mic (mic : Mic)
  deriving DecidableEq, Repr

/-- Whether a repeat is playing or the gap runs (R36). -/
inductive Phase where
  | playing
  | gap
  deriving DecidableEq, Repr

/-- An announcement record (R36); the defaults are those of a new record. -/
structure Announcement where
  id            : Byte
  cls           : AnnClass
  origin        : Origin
  berths        : BerthSet
  repeats       : Nat
  card          : Option Byte
  played        : Bool := false
  awaitingStart : Bool := false
  currentRepeat : Nat := 1
  phase         : Phase := .playing
  framesPlayed  : Nat := 0
  gapLeft       : Nat := 0
  liveSeconds   : Nat := 0
  liveFrames    : Nat := 0
  endDue        : Bool := false
  withdrawn     : Bool := false
  deriving DecidableEq, Repr

/-- A clip reader: the clip and variant it plays, the variant's declared sample count and the output
position (section 4.7, R83). -/
structure Reader where
  clip     : ClipNo
  variant  : Fin 4
  samples  : Nat
  position : Nat
  deriving DecidableEq, Repr

/-- The coverage of the current frame, with the active record's id, class and card (R37, R58, R59). -/
structure Coverage where
  berths : BerthSet
  id     : Byte
  cls    : AnnClass
  card   : Option Byte
  deriving DecidableEq, Repr

/-- The voice channel (R37). `stack` holds the voice stack with its TOP FIRST. `frozenFrame` is the latch
as read for the frame in progress (R57 step 4). `collectingA` and `collectingB` are the microphone
samples taken in during the frame in progress, in arrival order (R51). -/
structure Voice where
  active          : Option Announcement := none
  stack           : List Announcement := []
  waiting         : List Announcement := []
  readers         : List Reader := []
  heldA           : List Sample := List.replicate 48 0
  heldB           : List Sample := List.replicate 48 0
  collectingA     : List Sample := []
  collectingB     : List Sample := []
  stackLimitArmed : Bool := true
  coverage        : Option Coverage := none
  frozenFrame     : Bool := false
  deriving DecidableEq, Repr

/-! ## Clip store (chapter 4) -/

/-- State of a clip variant (R69). -/
inductive VariantState where
  | empty
  | loading
  | ready
  deriving DecidableEq, Repr

/-- A clip variant (R69). -/
structure Variant where
  state    : VariantState := .empty
  declared : Nat := 0
  chain    : List Nat := []
  written  : Nat := 0
  deriving DecidableEq, Repr

/-- The clip store: the clip table, the free set ordered by number and the 16 MiB of clip memory
(R67, R69). A memory address is 4096 times the block number plus the byte's place in the block. The list
is kept in the canonical form of `Memory.wf`. -/
structure Clips where
  table : Vector (Vector Variant 4) 64 := Vector.replicate 64 (Vector.replicate 4 {})
  free  : List Nat := List.range 4096
  mem   : List Host.Cell := []
  deriving DecidableEq, Repr

/-! ## Berth mixer (chapter 5) -/

/-- The output path of a berth (R94). -/
inductive OutputPath where
  | normal
  | emergency
  | test
  deriving DecidableEq, Repr

/-- The gains in force of a berth (R86). -/
structure Gains where
  path : OutputPath := .normal
  step : Nat := 0
  gp   : Nat := 0
  ga   : Nat := 0
  gsp  : Nat := 0
  gsa  : Nat := 0
  deriving DecidableEq, Repr

/-- The 48 headphone pairs and 48 speaker samples of a berth for a frame (R103). -/
structure BerthAudio where
  headphones : List (Sample × Sample) := []
  speaker    : List Sample := []
  deriving DecidableEq, Repr

/-- What the mixer holds for one berth (R86) and the outputs of the frame in progress (R103). -/
structure MixerBerth where
  gains       : Gains := {}
  saturated   : Bool := false
  runningPeak : Nat := 0
  peakLevel   : Nat := 0
  output      : BerthAudio := {}
  deriving DecidableEq, Repr

/-- The volume curve after a reset (R86). -/
def defaultCurve : Vector Nat 16 :=
  #v[0, 256, 362, 512, 724, 1024, 1448, 2048, 2896, 4096, 5793, 8192, 11585, 16384, 23170, 32767]

/-- The mixer (R86). `frameOpen` says that a lane frame has begun since the last reset (R189): the first lane
frame start after a reset accounts no frame (R102). -/
structure Mixer where
  curve        : Vector Nat 16 := defaultCurve
  berths       : Vector MixerBerth 40 := Vector.replicate 40 {}
  periodFrames : Nat := 0
  frameOpen    : Bool := false
  deriving DecidableEq, Repr

/-! ## Emergency line unit (chapter 6) -/

/-- The filter and the latch (R105). -/
structure Emergency where
  candidate    : Line := .released
  runCount     : Nat := 0
  accepted     : Line := .released
  latch        : Bool := false
  clearPending : Bool := false
  deriving DecidableEq, Repr

/-! ## Journey clock (chapter 7) -/

/-- The journey clock (R112). `isSet` is the clock state, false for UNSET; `night` says the night is in
force. -/
structure Clock where
  isSet      : Bool := false
  day        : Nat := 0
  hour       : Nat := 0
  minute     : Nat := 0
  second     : Nat := 0
  frameCount : Nat := 0
  held       : Bool := false
  night      : Bool := false
  deriving DecidableEq, Repr

/-! ## Wake scheduler (chapter 8) -/

/-- State of a stop (R125). -/
inductive StopState where
  | unused
  | ahead
  | passed
  deriving DecidableEq, Repr

/-- An entry of the stop table (R125). -/
structure Stop where
  state    : StopState := .unused
  eta      : Nat := 0
  nameClip : Option ClipNo := none
  deriving DecidableEq, Repr

/-- State of a wake entry (R130). -/
inductive WakeEntryState where
  | armed
  | ringing
  | acked
  | missed
  deriving DecidableEq, Repr

/-- A wake entry (R130). -/
structure WakeEntry where
  berth       : Berth
  stop        : StopNo
  lead        : Nat
  due         : Nat
  state       : WakeEntryState := .armed
  ringSeconds : Nat := 0
  deferred    : Bool := false
  cycle       : Nat := 0
  deriving DecidableEq, Repr

/-- The stop table (R125) and the wake list in list order (R130). -/
structure Wake where
  stops   : Vector Stop 24 := Vector.replicate 24 {}
  entries : List WakeEntry := []
  deriving DecidableEq, Repr

/-! ## Lane controller (chapter 9) -/

/-- The source of lane frame starts (R146). -/
inductive Reference where
  | localOsc
  | port
  deriving DecidableEq, Repr

/-- The frame timer (R146). -/
structure Timer where
  reference   : Reference := .localOsc
  requested   : Option Reference := none
  strobeAge   : Nat := 4
  strobeSeen  : Bool := false
  frameNumber : BitVec 16 := 0
  deriving DecidableEq, Repr

/-- State of a lane (R150). -/
inductive LaneState where
  | disabled
  | down
  | up
  deriving DecidableEq, Repr

/-- A downstream berth slot without its CRC (R155, section 11.7.9). -/
structure DownSlot where
  mode     : VideoMode := .hold
  card     : Byte := 0
  cells    : List VideoCell := []
  loopback : Bool := false
  audio    : BerthAudio := {}
  deriving DecidableEq, Repr

/-- A downstream lane frame (R154, section 11.7.9). -/
structure DownFrame where
  number : BitVec 16
  laneUp : Bool
  slots  : List DownSlot
  deriving DecidableEq, Repr

/-- A lane (R150) and the downstream frame it sends in the frame in progress (R154). -/
structure Lane where
  state           : LaneState := .down
  goodRun         : Nat := 0
  badRun          : Nat := 0
  trailerReceived : Bool := false
  trailerGood     : Bool := false
  sending         : Option DownFrame := none
  deriving DecidableEq, Repr

/-- A debounced status field: its accepted value, candidate and candidate run (R158). -/
structure Debounced (α : Type) where
  accepted  : α
  candidate : Option α := none
  run       : Nat := 0
  deriving DecidableEq, Repr

/-- What the lane controller holds for one berth: presence and runs (R157), the four debounced fields
(R158), the BERTH_CHANGE pending flag (R159) and whether a slot of the frame in progress was judged
(R156: a second one is ignored, a missing one counts as invalid). -/
structure BerthLink where
  present       : Bool := false
  validRun      : Nat := 0
  invalidRun    : Nat := 0
  headphone     : Debounced Bool := { accepted := false }
  call          : Debounced Bool := { accepted := false }
  screen        : Debounced Bool := { accepted := false }
  knob          : Debounced (Fin 16) := { accepted := 0 }
  changePending : Bool := false
  slotJudged    : Bool := false
  deriving DecidableEq, Repr

/-- How the last lane test ended (R162). -/
inductive TestEnd where
  | none
  | stopped
  | emergency
  deriving DecidableEq, Repr

/-- The 48 test words of one berth for one frame (R165). -/
structure BerthWords where
  berth : Berth
  words : List Sample
  deriving DecidableEq, Repr

/-- The lane test record (R162). `frameSet` is the tested set the other blocks read for the frame in
progress. `words` are the words of the frame in progress and `recent` those of the two frames before it,
newest first. Place i of the generator is bit i-1. -/
structure LaneTest where
  running   : Bool := false
  lastEnd   : TestEnd := .none
  tested    : BerthSet := 0
  frameSet  : BerthSet := 0
  frame     : Nat := 0
  generator : BitVec 15 := BitVec.allOnes 15
  words     : List BerthWords := []
  recent    : List (List BerthWords) := []
  deriving DecidableEq, Repr

/-! ## Counter bank (chapter 10) -/

/-- The counters by group (R168). -/
inductive Counter where
  | sat (berth : Berth)
  | slotErr (berth : Berth)
  | testErr (berth : Berth)
  | syncLoss (lane : LaneNo)
  | cellDrop (programme : ProgrammeNo)
  | audioGap (programme : ProgrammeNo)
  | stalls (programme : ProgrammeNo)
  | badFrames
  | droppedRequests
  deriving DecidableEq, Repr

/-- The counter bank (R169). The 144 counters stand in group order, each group in index order. -/
structure Counters where
  live       : Vector Nat 144 := Vector.replicate 144 0
  snapshot   : Vector Nat 144 := Vector.replicate 144 0
  number     : BitVec 16 := 0
  autoFrames : Nat := 0
  deriving DecidableEq, Repr

/-! ## Control link unit (chapter 11) -/

/-- Result codes (00_scope.md 6.7). -/
inductive Result where
  | ok
  | unknownRequest
  | badLength
  | badField
  | wrongState
  | notFound
  | inUse
  | queueFull
  | idInUse
  | noClip
  | noSpace
  | exists
  | outOfOrder
  | lineActive
  | noReference
  deriving DecidableEq, Repr

/-- The kind of the last reset, as READY carries it (R189). -/
inductive ResetKind where
  | powerOn
  | restart
  deriving DecidableEq, Repr

/-- How an announcement ended (R65). -/
inductive EndReason where
  | done
  | withdrawn
  | timeout
  deriving DecidableEq, Repr

/-- The reason a WAKE_STATE notice carries (R143). -/
inductive WakeReason where
  | due
  | announced
  | noClip
  | noId
  | queueFull
  | limit
  | passed
  deriving DecidableEq, Repr

/-- Why a lane changed its state (R153). -/
inductive LaneCause where
  | trained
  | lost
  | request
  deriving DecidableEq, Repr

/-- The event of an EMERGENCY notice (R110). -/
inductive EmergencyEvent where
  | latched
  | cleared
  deriving DecidableEq, Repr

/-- The notices (section 11.7.8). -/
inductive Notice where
  | ready (kind : ResetKind)
  | berthChange (berth : Berth) (present headphone screen : Bool)
  | call (berth : Berth)
  | annStarted (id : Byte) (resumed : Bool)
  | annEnded (id : Byte) (reason : EndReason)
  | wakeState (berth : Berth) (stop : StopNo) (state : WakeEntryState) (reason : WakeReason) (autoId : Byte)
  | programmeState (programme : ProgrammeNo) (before after : ProgrammeState)
  | laneState (lane : LaneNo) (before after : LaneState) (cause : LaneCause)
  | emergency (event : EmergencyEvent) (line : Line)
  | stackLimit (id : Byte) (cls : AnnClass) (limit occupancy : Nat)
  | clockLimit (day hour minute second journeyMinute : Nat)
  | referenceLost
  deriving DecidableEq, Repr

/-- A received request frame or a frame to be sent, without sync, length and CRC (R176). -/
structure LinkFrame where
  kind    : Byte
  serial  : Byte
  payload : List Byte
  deriving DecidableEq, Repr

/-- A reply: its result and the payload bytes after the result (R181). -/
structure Reply where
  result : Result
  items  : List Byte
  deriving DecidableEq, Repr

/-- State of a request buffer entry (R179). -/
inductive EntryState where
  | waiting
  | inHand
  | answered (reply : Reply)
  deriving DecidableEq, Repr

/-- An entry of the request buffer (R179). -/
structure BufferEntry where
  frame : LinkFrame
  state : EntryState
  deriving DecidableEq, Repr

/-- The frame the transmitter is sending (R182): the reply of the oldest ANSWERED entry, or a notice. -/
inductive Sending where
  | reply (frame : LinkFrame)
  | notice (notice : Notice)
  deriving DecidableEq, Repr

/-- The control link unit. `held` are the bytes the receiver holds: none in HUNTING, the sync byte and
what followed it in ASSEMBLING (R178). -/
structure Link where
  held    : List Byte := []
  buffer  : List BufferEntry := []
  notices : List Notice := []
  dropped : Bool := false
  sending : Option Sending := none
  deriving DecidableEq, Repr

/-! ## The machine -/

/-- The state of the part. `orderCount` is the model's own: the place at which the next free choice of
`Config.bankPlace` is read. `pending` is the queue of the commands that are waiting, first in first
out. -/
structure State where
  settings   : Settings
  routes     : Vector BerthRoute 40
  programmes : Vector Programme 6
  voice      : Voice
  clips      : Clips
  mixer      : Mixer
  emergency  : Emergency
  clock      : Clock
  wake       : Wake
  timer      : Timer
  lanes      : Vector Lane 4
  berths     : Vector BerthLink 40
  test       : LaneTest
  counters   : Counters
  link       : Link
  orderCount : Nat
  pending    : List Instr
  deriving DecidableEq, Repr

/-- The reasons a step stops with a fault. There is none: no rule of spec/ names a condition in which the
part stops. -/
inductive Fault where
  deriving DecidableEq, Repr

/-- The reasons a step is refused. -/
inductive Refusal where
  /-- Raised by `exec` for a command that has no meaning in the model yet. Safe: the machine stops. No arm
  raises it now. -/
  | notModelled (mnemonic : String)
  deriving DecidableEq, Repr

/-- The machine right after power-on reset: every block holds the values its chapter states, the READY
notice has been queued and the transmitter, being idle, has begun to send it (R182, R189). -/
def State.reset : State where
  settings   := {}
  routes     := Vector.replicate 40 {}
  programmes := Vector.replicate 6 {}
  voice      := {}
  clips      := {}
  mixer      := {}
  emergency  := {}
  clock      := {}
  wake       := {}
  timer      := {}
  lanes      := Vector.replicate 4 {}
  berths     := Vector.replicate 40 {}
  test       := {}
  counters   := {}
  link       := { sending := some (.notice (.ready .powerOn)) }
  orderCount := 0
  pending    := []

end Sys2Proof.Machine
end

