-- ==== Sys2Proof/Machine/Ops.lean ====
section
/-! DEFINITION. The named operations that the blocks share: tables, berth sets, the CRC-16, clip memory,
raising a counter and queueing a notice. -/

namespace Sys2Proof.Machine

/-! ## Tables -/

/-- The table with entry i replaced by its image. -/
def amend {α : Type} {n : Nat} (v : Vector α n) (i : Fin n) (f : α → α) : Vector α n :=
  v.set i (f v[i])

/-- The table whose entry i is `f i`. -/
def tabulate {α : Type} {n : Nat} (f : Fin n → α) : Vector α n := Vector.ofFn f

/-- The lane that serves a berth: lane k carries berths 10(k-1)+1 to 10k (chapter 9). -/
def laneOf (b : Berth) : LaneNo := ⟨b.val / 10, by omega⟩

/-- The ten berths of a lane in slot position order. -/
def berthsOf (l : LaneNo) : List Berth := (List.finRange 40).filter fun b => laneOf b == l

/-! ## Berth sets (00_scope.md 6.4) -/

/-- Berth b is in the set. -/
def inSet (set : BerthSet) (b : Berth) : Bool := set.getLsbD b.val

/-- The set of the berths that satisfy p. -/
def setOf (p : Berth → Bool) : BerthSet :=
  (List.finRange 40).foldl (fun acc b => if p b then acc ||| (1#40 <<< b.val) else acc) 0

/-- The berths of a set in ascending order. -/
def members (set : BerthSet) : List Berth := (List.finRange 40).filter (inSet set)

/-! ## CRC-16 (R177) -/

/-- One bit into the CRC register. -/
def crcBit (reg : BitVec 16) (bit : Bool) : BitVec 16 :=
  if bit != reg.msb then (reg <<< 1) ^^^ 0x1021#16 else reg <<< 1

/-- One byte into the CRC register, most significant bit first. -/
def crcByte (reg : BitVec 16) (byte : Byte) : BitVec 16 :=
  [7, 6, 5, 4, 3, 2, 1, 0].foldl (fun r k => crcBit r (byte.getLsbD k)) reg

/-- The CRC-16 of a run of bytes (R177). -/
def crc16 (bytes : List Byte) : BitVec 16 := bytes.foldl crcByte 0xFFFF#16

/-- The high byte of a 16-bit field. -/
def highByte (w : BitVec 16) : Byte := w.extractLsb' 8 8

/-- The low byte of a 16-bit field. -/
def lowByte (w : BitVec 16) : Byte := w.extractLsb' 0 8

/-- A 16-bit field, high byte first (R190, 00_scope.md 6.9). -/
def be16 (w : BitVec 16) : List Byte := [highByte w, lowByte w]

/-- A 32-bit field, high byte first (R190). -/
def be32 (w : BitVec 32) : List Byte :=
  [w.extractLsb' 24 8, w.extractLsb' 16 8, w.extractLsb' 8 8, w.extractLsb' 0 8]

/-! ## Clip memory (R67)

A list of (address, byte) pairs with addresses strictly rising and no entry equal to what an unlisted
address reads as. -/

/-- What an address of clip memory that nothing has written reads as. DESIGN CHOICE
(notes/assumptions/3.md): no reader and no reply reaches such a byte (R68). -/
def Memory.blank : Byte := 0

/-- Clip memory holds 4096 blocks of 4 KiB (R67). -/
def Memory.size : Nat := 16777216

/-- The byte at an address. -/
def Memory.read (mem : List Host.Cell) (a : Nat) : Byte :=
  match mem with
  | [] => Memory.blank
  | c :: rest => if c.1 = a then c.2 else Memory.read rest a

/-- The cells that stand for one byte at one address: none for the byte an unlisted address reads as. -/
def Memory.cell (a : Nat) (byte : Byte) : List Host.Cell :=
  if byte = Memory.blank then [] else [(a, byte)]

/-- Memory after one byte is written. -/
def Memory.write (mem : List Host.Cell) (a : Nat) (byte : Byte) : List Host.Cell :=
  match mem with
  | [] => Memory.cell a byte
  | c :: rest =>
    if a < c.1 then Memory.cell a byte ++ (c :: rest)
    else if c.1 = a then Memory.cell a byte ++ rest
    else c :: Memory.write rest a byte

/-- Every address of the list is above a bound and no entry is the byte of an unlisted address. -/
def Memory.wfFrom (bound : Option Nat) (mem : List Host.Cell) : Bool :=
  match mem with
  | [] => true
  | c :: rest =>
    (match bound with
      | none => true
      | some b => decide (b < c.1)) &&
    decide (c.2 ≠ Memory.blank) && Memory.wfFrom (some c.1) rest

/-- The canonical form. -/
def Memory.wf (mem : List Host.Cell) : Bool := Memory.wfFrom none mem

/-- A sample written at an address, high byte at the lower address. DESIGN CHOICE
(notes/assumptions/3.md): the spec gives the bytes of a stored sample no order. -/
def Memory.writeSample (mem : List Host.Cell) (a : Nat) (v : Sample) : List Host.Cell :=
  Memory.write (Memory.write mem a (highByte v)) (a + 1) (lowByte v)

/-- The sample at an address. -/
def Memory.readSample (mem : List Host.Cell) (a : Nat) : Sample :=
  Memory.read mem a ++ Memory.read mem (a + 1)

/-! ## Counters (R168) -/

/-- The position of a counter in the bank: groups 1 to 8 in order, each in index order (R168). -/
def counterIndex : Counter → Fin 144
  | .sat b => ⟨b.val, by omega⟩
  | .slotErr b => ⟨40 + b.val, by omega⟩
  | .testErr b => ⟨80 + b.val, by omega⟩
  | .syncLoss l => ⟨120 + l.val, by omega⟩
  | .cellDrop p => ⟨124 + p.val, by omega⟩
  | .audioGap p => ⟨130 + p.val, by omega⟩
  | .stalls p => ⟨136 + p.val, by omega⟩
  | .badFrames => 142
  | .droppedRequests => 143

/-- A live counter raised by n saturates at 65535 (R168). -/
def saturate (v n : Nat) : Nat := min (v + n) 65535

/-- Raise a live counter (R168). -/
def raise (c : Counter) (n : Nat) (s : State) : State :=
  { s with counters :=
    { s.counters with live := amend s.counters.live (counterIndex c) (fun v => saturate v n) } }

/-! ## The first lane frame -/

/-- A lane frame has begun since the last reset: the blocks outside the control link begin their work at the
first lane frame start after it (R189). What arrives for them before is lost (notes/assumptions/39.md). -/
def begun (s : State) : Bool := s.mixer.frameOpen

/-! ## Notices (R183) -/

/-- The notice queue holds 32 notices (R183). -/
def noticeCapacity : Nat := 32

/-- A notice joins the queue of the link unit, or is discarded and sets the notices-dropped flag (R183). -/
def Link.queue (l : Link) (n : Notice) : Link :=
  if l.notices.length < noticeCapacity then { l with notices := l.notices ++ [n] }
  else { l with dropped := true }

/-- Queue a notice (R183). -/
def queueNotice (n : Notice) (s : State) : State := { s with link := s.link.queue n }

/-- Queue notices in order. -/
def queueNotices (ns : List Notice) (s : State) : State := ns.foldl (fun s n => queueNotice n s) s

end Sys2Proof.Machine
end

