-- ==== Sys2Proof/Machine/Flags.lean ====
section
/-! DEFINITION. The codes of section 11.7.4, the result codes, and the layouts of notices, replies and
link frames. -/

namespace Sys2Proof.Machine

/-- A number 0-255 as one byte (R190). -/
def u8 (n : Nat) : Byte := BitVec.ofNat 8 n

/-- A number 0-65535 as two bytes, high byte first (R190). -/
def u16 (n : Nat) : List Byte := be16 (BitVec.ofNat 16 n)

/-- A sample count or clip offset as four bytes, high byte first (R190). -/
def u32 (n : Nat) : List Byte := be32 (BitVec.ofNat 32 n)

/-- A yes/no value: 0 no, 1 yes (R190). -/
def flag (b : Bool) : Byte := if b then 1 else 0

/-- An interval, 0xFFFF when none (R190). -/
def intervalField : Option Nat → List Byte
  | none => be16 0xFFFF#16
  | some n => u16 n

/-- The five bytes of a berth set, lowest-numbered berths first (section 11.7.3). -/
def setField (set : BerthSet) : List Byte :=
  [set.extractLsb' 0 8, set.extractLsb' 8 8, set.extractLsb' 16 8, set.extractLsb' 24 8, set.extractLsb' 32 8]

/-- The number of a berth, lane, programme, clip or stop: its index plus 1. -/
def number {n : Nat} (i : Fin n) : Byte := u8 (i.val + 1)

/-- Programme 0 is "none" (R190). -/
def programmeField : Option ProgrammeNo → Byte
  | none => 0
  | some p => number p

/-- An absent card is coded 0 (R190). -/
def cardField : Option Byte → Byte
  | none => 0
  | some c => c

/-- No name clip is coded 0 (R190). -/
def clipField : Option ClipNo → Byte
  | none => 0
  | some c => number c

/-- Conditioning code (section 11.7.4). -/
def Conditioning.code : Conditioning → Byte
  | .pass => 0
  | .silence => 1
  | .tone => 2

/-- Announcement class code (section 11.7.4), and the urgency itself: a higher number is more urgent (R36). -/
def AnnClass.rank : AnnClass → Nat
  | .stop => 1
  | .service => 2
  | .crew => 3
  | .safety => 4

/-- Origin code (section 11.7.4). -/
def Origin.code : Origin → Byte
  | .clip _ => 0
  | .mic .micA => 1
  | .mic .micB => 2

/-- The clip byte of a record: 0 for a live origin (section 11.7.7). -/
def Origin.clipByte : Origin → Byte
  | .clip c => number c
  | .mic _ => 0

/-- Phase code (section 11.7.4). -/
def Phase.code : Phase → Byte
  | .playing => 0
  | .gap => 1

/-- Announcement end reason code (section 11.7.4). -/
def EndReason.code : EndReason → Byte
  | .done => 0
  | .withdrawn => 1
  | .timeout => 2

/-- Video mode code (section 11.7.4). -/
def VideoMode.code : VideoMode → Byte
  | .pass => 0
  | .hold => 1
  | .card => 2

/-- Video state code (section 11.7.4). -/
def VideoState.code : VideoState → Byte
  | .passing => 0
  | .waitingEntry => 1

/-- Output path code (section 11.7.4). -/
def OutputPath.code : OutputPath → Byte
  | .normal => 0
  | .emergency => 1
  | .test => 2

/-- Programme state code (section 11.7.4). -/
def ProgrammeState.code : ProgrammeState → Byte
  | .absent => 0
  | .running => 1
  | .stalled => 2

/-- Variant state code (section 11.7.4). -/
def VariantState.code : VariantState → Byte
  | .empty => 0
  | .loading => 1
  | .ready => 2

/-- Stop state code (section 11.7.4). -/
def StopState.code : StopState → Byte
  | .unused => 0
  | .ahead => 1
  | .passed => 2

/-- Wake state code (section 11.7.4); 4 is NONE. -/
def WakeEntryState.code : WakeEntryState → Byte
  | .armed => 0
  | .ringing => 1
  | .acked => 2
  | .missed => 3

/-- Wake reason code (section 11.7.4). -/
def WakeReason.code : WakeReason → Byte
  | .due => 0
  | .announced => 1
  | .noClip => 2
  | .noId => 3
  | .queueFull => 4
  | .limit => 5
  | .passed => 6

/-- Lane state code (section 11.7.4). -/
def LaneState.code : LaneState → Byte
  | .disabled => 0
  | .down => 1
  | .up => 2

/-- Lane change cause code (section 11.7.4). -/
def LaneCause.code : LaneCause → Byte
  | .trained => 0
  | .lost => 1
  | .request => 2

/-- Reference code (section 11.7.4). -/
def Reference.code : Reference → Byte
  | .localOsc => 0
  | .port => 1

/-- Last test end code (section 11.7.4). -/
def TestEnd.code : TestEnd → Byte
  | .none => 0
  | .stopped => 1
  | .emergency => 2

/-- Emergency event code (section 11.7.4). -/
def EmergencyEvent.code : EmergencyEvent → Byte
  | .latched => 0
  | .cleared => 1

/-- Line code (section 11.7.4). -/
def lineCode : Line → Byte
  | .released => 0
  | .asserted => 1

/-- Reset kind code (section 11.7.4). -/
def ResetKind.code : ResetKind → Byte
  | .powerOn => 0
  | .restart => 1

/-- Result codes (00_scope.md 6.7). -/
def Result.code : Result → Byte
  | .ok => 0
  | .unknownRequest => 1
  | .badLength => 2
  | .badField => 3
  | .wrongState => 4
  | .notFound => 5
  | .inUse => 6
  | .queueFull => 7
  | .idInUse => 8
  | .noClip => 9
  | .noSpace => 10
  | .exists => 11
  | .outOfOrder => 12
  | .lineActive => 13
  | .noReference => 14

/-- An OK reply with its items (R181). -/
def okReply (items : List Byte) : Reply := { result := .ok, items := items }

/-- A reply whose result is not OK carries the result alone (R181). -/
def refuse (r : Result) : Reply := { result := r, items := [] }

/-- The payload of a reply: the result code, then the items (R181). -/
def Reply.payload (r : Reply) : List Byte := r.result.code :: r.items

/-- The clock fields (section 11.7.5). -/
def clockFields (day hour minute second : Nat) : List Byte := [u8 day, u8 hour, u8 minute, u8 second]

/-- The kind of a notice (section 11.7.8). -/
def Notice.kind : Notice → Byte
  | .ready _ => 0xC0
  | .berthChange _ _ _ _ => 0xC1
  | .call _ => 0xC2
  | .annStarted _ _ => 0xC3
  | .annEnded _ _ => 0xC4
  | .wakeState _ _ _ _ _ => 0xC5
  | .programmeState _ _ _ => 0xC6
  | .laneState _ _ _ _ => 0xC7
  | .emergency _ _ => 0xC8
  | .stackLimit _ _ _ _ => 0xC9
  | .clockLimit _ _ _ _ _ => 0xCA
  | .referenceLost => 0xCB

/-- The payload of a notice (section 11.7.8). -/
def Notice.payload : Notice → List Byte
  | .ready k => [k.code]
  | .berthChange b p h sc => [number b, flag p, flag h, flag sc]
  | .call b => [number b]
  | .annStarted i r => [i, flag r]
  | .annEnded i r => [i, r.code]
  | .wakeState b t st r a => [number b, number t, st.code, r.code, a]
  | .programmeState p x y => [number p, x.code, y.code]
  | .laneState l x y c => [number l, x.code, y.code, c.code]
  | .emergency e l => [e.code, lineCode l]
  | .stackLimit i c lim occ => [i, u8 c.rank, u8 lim, u8 occ]
  | .clockLimit d h m sec j => clockFields d h m sec ++ u16 j
  | .referenceLost => [Reference.code .localOsc, 0]

/-- The frame of a notice: a notice carries serial 0 (R176). -/
def Notice.frame (n : Notice) : LinkFrame := { kind := n.kind, serial := 0, payload := n.payload }

/-- The frame a transmission sends. -/
def Sending.frame : Sending → LinkFrame
  | .reply f => f
  | .notice n => n.frame

/-- The bytes of a frame that its CRC covers: length, kind, serial and payload (R177). -/
def LinkFrame.covered (f : LinkFrame) : List Byte := u16 f.payload.length ++ [f.kind, f.serial] ++ f.payload

/-- The bytes of a frame on the line (R176). -/
def LinkFrame.bytes (f : LinkFrame) : List Byte := 0xA7 :: (f.covered ++ be16 (crc16 f.covered))

end Sys2Proof.Machine
end

