-- ==== Sys2Proof/Machine/Operands.lean ====
section
/-! DEFINITION. How the fields of a request payload are read (R190, section 11.7.2), and the checks that a
field names a berth, lane, programme, clip, stop or an enumerated value. -/

namespace Sys2Proof.Machine

/-- The byte at a place of the payload. -/
def field8 (p : List Byte) (i : Nat) : Byte := p.getD i 0

/-- A two-byte field, high byte first. -/
def field16 (p : List Byte) (i : Nat) : BitVec 16 := field8 p i ++ field8 p (i + 1)

/-- A four-byte field, high byte first. -/
def field32 (p : List Byte) (i : Nat) : BitVec 32 := field16 p i ++ field16 p (i + 2)

/-- A berth set, lowest-numbered berths in the first byte (section 11.7.3). -/
def fieldSet (p : List Byte) (i : Nat) : BerthSet :=
  field8 p (i + 4) ++ (field8 p (i + 3) ++ (field8 p (i + 2) ++ (field8 p (i + 1) ++ field8 p i)))

/-- Two-byte fields one after the other: n of them from a place on. -/
def field16s (p : List Byte) (i n : Nat) : List (BitVec 16) :=
  (List.range n).map fun k => field16 p (i + 2 * k)

/-- The index of a thing numbered 1 to n, none when the number is outside. -/
def indexOf (n : Nat) (b : Byte) : Option (Fin n) :=
  if h : 1 ≤ b.toNat ∧ b.toNat ≤ n then some ⟨b.toNat - 1, by omega⟩ else none

/-- A number from 0 to n-1, none when it is outside. -/
def below (n : Nat) (b : Byte) : Option (Fin n) :=
  if h : b.toNat < n then some ⟨b.toNat, h⟩ else none

/-- A yes/no field, none for a value other than 0 and 1 (R190). -/
def yesNo (b : Byte) : Option Bool :=
  if b = 0 then some false else if b = 1 then some true else none

/-- A card field: 0 is absent, 1-253 the card, 254 and 255 are refused (R3, R41). -/
def cardOf (b : Byte) : Option (Option Byte) :=
  if b = 0 then some none else if b = 254 ∨ b = 255 then none else some (some b)

/-- A programme field: 0 is "none", 1-6 a programme, others are refused (R3). -/
def programmeOf (b : Byte) : Option (Option ProgrammeNo) :=
  if b = 0 then some none else (indexOf 6 b).map some

/-- A name clip field: 0 is none, 1-64 a clip, others are refused (R126). -/
def nameClipOf (b : Byte) : Option (Option ClipNo) :=
  if b = 0 then some none else (indexOf 64 b).map some

/-- A conditioning code (section 11.7.4). -/
def conditioningOf (b : Byte) : Option Conditioning :=
  if b = 0 then some .pass else if b = 1 then some .silence else if b = 2 then some .tone else none

/-- An announcement class (section 11.7.4). -/
def classOf (b : Byte) : Option AnnClass :=
  if b = 1 then some .stop else if b = 2 then some .service else if b = 3 then some .crew
  else if b = 4 then some .safety else none

/-- An origin code with its clip field; the clip field of a live origin is ignored (R41). -/
def originOf (code clip : Byte) : Option Origin :=
  if code = 0 then (indexOf 64 clip).map .clip
  else if code = 1 then some (.mic .micA)
  else if code = 2 then some (.mic .micB)
  else none

/-- A reference code (section 11.7.4). -/
def referenceOf (b : Byte) : Option Reference :=
  if b = 0 then some .localOsc else if b = 1 then some .port else none

/-- A value clamped to a range (00_scope.md 6.6). -/
def clamp (lo hi v : Nat) : Nat := min hi (max lo v)

/-- The signed sum of two samples or other integers as a sample of 16 bits. -/
def toSample (x : Int) : Sample := BitVec.ofInt 16 x

end Sys2Proof.Machine
end

