-- ==== Sys2Proof/Machine/Emergency.lean ====
section
/-! DEFINITION. The emergency line unit: alarm filter, latch and EMERGENCY_CLEAR (chapter 6). -/

namespace Sys2Proof.Machine

/-- One sample of the alarm line into the candidate and the run count (R106). -/
def Emergency.sample (e : Emergency) (line : Line) : Emergency :=
  if line = e.candidate then { e with runCount := min (e.runCount + 1) 100 }
  else { e with candidate := line, runCount := 1 }

/-- The filter accepts the candidate (R106). -/
def Emergency.accepts (e : Emergency) (filter : Nat) : Bool :=
  e.candidate != e.accepted && decide (filter ≤ e.runCount)

/-- The accepted line becomes the candidate; turning ASSERTED it sets the latch or cancels a pending clear,
with a LATCHED notice (R106, step 2 of R108, R110). -/
def acceptLine (s : State) : State :=
  let e := { s.emergency with accepted := s.emergency.candidate }
  match e.accepted with
  | .released => { s with emergency := e }
  | .asserted =>
    if e.latch = false ∨ e.clearPending then
      queueNotice (.emergency .latched .asserted)
        { s with emergency := { e with latch := true, clearPending := false } }
    else { s with emergency := e }

/-- A pending clear is carried out: the latch clears with a CLEARED notice (step 3 of R108, R110). -/
def carryOutClear (s : State) : State :=
  if s.emergency.clearPending then
    queueNotice (.emergency .cleared s.emergency.accepted)
      { s with emergency := { s.emergency with latch := false, clearPending := false } }
  else s

/-- The unit's work at a lane frame start (R108). -/
def emergencyFrame (line : Line) (s : State) : State :=
  let s := { s with emergency := s.emergency.sample line }
  let s := if s.emergency.accepts s.settings.alarmFilter then acceptLine s else s
  carryOutClear s

/-- ALARM_ACCEPTED (R106, R108): the sample that brings the run of the candidate to the filter count does the unit's
work. A run that one more sample does not bring there is not accepted, and nothing changes. That this sample comes as a
command of its own is the model's choice (notes/assumptions/2.md). -/
def alarmAcceptedEvent (s : State) : State :=
  let line := s.emergency.candidate
  if (s.emergency.sample line).accepts s.settings.alarmFilter then emergencyFrame line s else s

/-- EMERGENCY_CLEAR (R109). -/
def handleEmergencyClear (s : State) : State × Reply :=
  if s.emergency.accepted = .asserted then (s, refuse .lineActive)
  else if s.emergency.latch = false then (s, refuse .wrongState)
  else ({ s with emergency := { s.emergency with clearPending := true } }, okReply [])

end Sys2Proof.Machine
end

