-- ==== Sys2Proof/Machine/Counters.lean ====
section
/-! DEFINITION. The settings table and the counter bank: snapshots, the auto period and COUNTERS_READ
(chapter 10), and the numbered settings with their ranges (section 11.5). -/

namespace Sys2Proof.Machine

/-! ## Settings -/

/-- The range of a setting, settings 1 to 17 in order (section 11.5). -/
def settingRanges : Vector (Nat × Nat) 17 :=
  #v[(0, 1439), (0, 1439), (0, 32767), (0, 32767), (0, 32767), (0, 32767), (0, 32767), (0, 32767),
     (0, 32767), (0, 5000), (5, 600), (1, 3), (0, 15), (100, 5000), (10, 600), (0, 1), (1, 100)]

/-- The value in force of a setting; setting n has index n-1. -/
def Settings.get (t : Settings) (i : Fin 17) : Nat :=
  #v[t.nightStart, t.nightEnd, t.nightCeiling, t.duckFactor, t.stopGain, t.serviceGain, t.crewGain,
     t.safetyGain, t.wakeGain, t.repeatGap, t.liveLimit, t.depthLimit, t.switchGuard, t.stallLimit,
     t.ringLimit, t.autoSnapshot, t.alarmFilter][i]

/-- The table with one setting replaced; setting n has index n-1. -/
def Settings.put (t : Settings) (i : Fin 17) (v : Nat) : Settings :=
  match i.val with
  | 0 => { t with nightStart := v }
  | 1 => { t with nightEnd := v }
  | 2 => { t with nightCeiling := v }
  | 3 => { t with duckFactor := v }
  | 4 => { t with stopGain := v }
  | 5 => { t with serviceGain := v }
  | 6 => { t with crewGain := v }
  | 7 => { t with safetyGain := v }
  | 8 => { t with wakeGain := v }
  | 9 => { t with repeatGap := v }
  | 10 => { t with liveLimit := v }
  | 11 => { t with depthLimit := v }
  | 12 => { t with switchGuard := v }
  | 13 => { t with stallLimit := v }
  | 14 => { t with ringLimit := v }
  | 15 => { t with autoSnapshot := v }
  | _ => { t with alarmFilter := v }

/-- A value clamped to the range of a setting (R185). -/
def clampSetting (i : Fin 17) (v : Nat) : Nat := clamp settingRanges[i].1 settingRanges[i].2 v

/-- SETTING_GET (R186). -/
def handleSettingGet (n : Byte) (s : State) : State × Reply :=
  match indexOf 17 n with
  | none => (s, refuse .badField)
  | some i => (s, okReply (n :: u16 (s.settings.get i)))

/-! ## Snapshots -/

/-- A snapshot is one act on the whole bank (R170). -/
def Counters.take (c : Counters) : Counters :=
  { live := Vector.replicate 144 0, snapshot := c.live, number := c.number + 1, autoFrames := 0 }

/-- Take a snapshot (R170). -/
def takeSnapshot (s : State) : State := { s with counters := s.counters.take }

/-- The auto period falls due at this lane frame start (R171). -/
def snapshotDue (s : State) : Bool :=
  s.settings.autoSnapshot == 1 && decide (1000 ≤ s.counters.autoFrames + 1)

/-- The bank's own work at a lane frame start when no snapshot falls due at it (R171). -/
def autoPeriod (s : State) : State :=
  { s with counters :=
    { s.counters with autoFrames := if s.settings.autoSnapshot = 1 then s.counters.autoFrames + 1 else 0 } }

/-- The free place at which a due snapshot stands among the blocks' work (R174): 0, 1, 2 or 3. -/
def snapshotPlace (s : State) : Nat := min (Config.bankPlace s.orderCount) 3

/-- A due snapshot taken at place k of the lane frame start, when the free choice says k (R170, R171, R174).
`due` says whether the auto period falls due at this frame start. -/
def snapshotAt (due : Bool) (k : Nat) (s : State) : State :=
  { s with counters := if due then (if snapshotPlace s = k then s.counters.take else s.counters)
                       else s.counters }

/-- The end of the bank's work at a lane frame start: the auto period advances when no snapshot fell due,
and a free choice made at this frame start is used up. -/
def closeBank (due : Bool) (s : State) : State :=
  if due then { s with orderCount := s.orderCount + 1 } else autoPeriod s

/-- The effect of a SETTING_SET of setting 16 on auto frames (R171): a change in either direction makes
it 0. -/
def autoSnapshotChanged (old : Nat) (s : State) : State :=
  if s.settings.autoSnapshot = old then s
  else { s with counters := { s.counters with autoFrames := 0 } }

/-- AUTO_SNAPSHOT (R171): with the setting at 1, auto frames reaches 1000. -/
def autoSnapshotEvent (s : State) : State := if s.settings.autoSnapshot = 1 then takeSnapshot s else s

/-- COUNTERS_SNAPSHOT (R172). -/
def handleCountersSnapshot (s : State) : State × Reply :=
  let s := takeSnapshot s
  (s, okReply (be16 s.counters.number))

/-- The size of a counter group and the place of its first counter (R168). -/
def counterGroup (g : Byte) : Option (Nat × Nat) :=
  if g = 1 then some (40, 0) else if g = 2 then some (40, 40) else if g = 3 then some (40, 80)
  else if g = 4 then some (4, 120) else if g = 5 then some (6, 124) else if g = 6 then some (6, 130)
  else if g = 7 then some (6, 136) else if g = 8 then some (2, 142) else none

/-- The snapshot values of count counters from a place of the bank on. -/
def snapshotValues (c : Counters) (start count : Nat) : List Byte :=
  ((List.range count).map fun k => u16 (c.snapshot.toList.getD (start + k) 0)).flatten

/-- COUNTERS_READ (R173). -/
def handleCountersRead (group first count : Byte) (s : State) : State × Reply :=
  match counterGroup group with
  | none => (s, refuse .badField)
  | some (size, base) =>
    if count.toNat = 0 ∨ first.toNat = 0 ∨ size < first.toNat ∨ size < first.toNat + count.toNat - 1 then
      (s, refuse .badField)
    else
      (s, okReply (be16 s.counters.number ++ [group, first, count] ++
        snapshotValues s.counters (base + (first.toNat - 1)) count.toNat))

end Sys2Proof.Machine
end

