-- ==== Sys2Proof/Machine/Clips.lean ====
section
/-! DEFINITION. The clip store: block pool, clip table, upload and deletion, and the samples a reader gives
(chapter 4). The requests that ask the voice channel whether a clip is held stand in Voice.lean. -/

namespace Sys2Proof.Machine

/-! ## Pool and table -/

/-- A variant of a clip. -/
def Clips.variant (c : Clips) (clip : ClipNo) (v : Fin 4) : Variant := c.table[clip][v]

/-- Change one variant of a clip. -/
def Clips.setVariant (c : Clips) (clip : ClipNo) (v : Fin 4) (x : Variant) : Clips :=
  { c with table := amend c.table clip fun row => row.set v x }

/-- The number of blocks a chain of n samples has: ceil(n/2048) (R67). -/
def blocksFor (n : Nat) : Nat := (n + 2047) / 2048

/-- One block returns to the free set, which is ordered by number (R67, R76). -/
def insertBlock (free : List Nat) (b : Nat) : List Nat :=
  match free with
  | [] => [b]
  | f :: rest => if b < f then b :: f :: rest else if b = f then f :: rest else f :: insertBlock rest b

/-- A variant is freed: its blocks return to the free set and it becomes EMPTY (R76). -/
def Clips.freeVariant (c : Clips) (clip : ClipNo) (v : Fin 4) : Clips :=
  { (c.setVariant clip v {}) with free := (c.variant clip v).chain.foldl insertBlock c.free }

/-- The variants of a clip in order. -/
def variants : List (Fin 4) := List.finRange 4

/-- Every variant of a clip that is not EMPTY is freed (R78). -/
def Clips.freeClip (c : Clips) (clip : ClipNo) : Clips :=
  variants.foldl (fun c v => if (c.variant clip v).state = .empty then c else c.freeVariant clip v) c

/-- RESTART frees every LOADING variant and keeps the READY ones (R70). -/
def Clips.restart (c : Clips) : Clips :=
  (List.finRange 64).foldl (fun c clip =>
    variants.foldl (fun c v =>
      if (c.variant clip v).state = .loading then c.freeVariant clip v else c) c) c

/-- A variant is READY in the clip store. -/
def variantReady (s : State) (clip : ClipNo) (v : Fin 4) : Bool :=
  (s.clips.variant clip v).state == .ready

/-! ## Samples -/

/-- The memory address of sample i of a chain: position (i mod 2048) of the block at place
floor(i/2048), two bytes a sample (R73). -/
def sampleAddress (chain : List Nat) (i : Nat) : Nat :=
  4096 * chain.getD (i / 2048) 0 + 2 * (i % 2048)

/-- Stored sample i of a variant (R73). -/
def Clips.sample (c : Clips) (x : Variant) (i : Nat) : Sample :=
  Memory.readSample c.mem (sampleAddress x.chain i)

/-- Samples stored from sample number `offset` on (R73, R74). -/
def writeSamples (mem : List Host.Cell) (chain : List Nat) (offset : Nat) (samples : List Sample) :
    List Host.Cell :=
  match samples with
  | [] => mem
  | v :: rest => writeSamples (Memory.writeSample mem (sampleAddress chain offset) v) chain (offset + 1) rest

/-- The stored sample k of a reader's variant, 0 from the declared count on: the sample after the last is
taken as 0 (R82). -/
def Reader.stored (c : Clips) (r : Reader) (k : Nat) : Int :=
  if k < r.samples then (c.sample (c.variant r.clip r.variant) k).toInt else 0

/-- Output sample q of a reader at 48 kHz: stored sample q/2, or the midpoint to the one after it, and 0
once 2n samples have been given (R82, R83). -/
def Reader.outputAt (c : Clips) (r : Reader) (q : Nat) : Sample :=
  let k := q / 2
  if k < r.samples then
    if q % 2 = 0 then toSample (r.stored c k) else toSample ((r.stored c k + r.stored c (k + 1)) / 2)
  else 0

/-- The 48 samples a reader gives in the frame it stands at (R83). -/
def Reader.frame (c : Clips) (r : Reader) : List Sample :=
  (List.range 48).map fun j => r.outputAt c (r.position + j)

/-! ## Requests -/

/-- CLIP_OPEN (R71, R72). -/
def handleClipOpen (clip variant : Byte) (count : BitVec 32) (s : State) : State × Reply :=
  match indexOf 64 clip, below 4 variant with
  | some c, some v =>
    if count.toNat < 1 ∨ 1048576 < count.toNat then (s, refuse .badField)
    else if (s.clips.variant c v).state ≠ .empty then (s, refuse .exists)
    else
      let k := blocksFor count.toNat
      if s.clips.free.length < k then (s, refuse .noSpace)
      else
        let x : Variant :=
          { state := .loading, declared := count.toNat, chain := s.clips.free.take k, written := 0 }
        let clips := { (s.clips.setVariant c v x) with free := s.clips.free.drop k }
        ({ s with clips := clips }, okReply (u16 k ++ u16 clips.free.length))
  | _, _ => (s, refuse .badField)

/-- CLIP_DATA whose payload has the length its count implies (R74, R75). -/
def handleClipData (clip variant : Byte) (offset : BitVec 32) (count : BitVec 16) (samples : List Sample)
    (s : State) : State × Reply :=
  match indexOf 64 clip, below 4 variant with
  | some c, some v =>
    if count.toNat < 1 ∨ 480 < count.toNat then (s, refuse .badField)
    else
      let x := s.clips.variant c v
      if x.state ≠ .loading then (s, refuse .wrongState)
      else if offset.toNat ≠ x.written then (s, refuse .outOfOrder)
      else if x.declared < offset.toNat + count.toNat then (s, refuse .badField)
      else
        let next := x.written + count.toNat
        let x' := { x with written := next, state := if next = x.declared then .ready else .loading }
        ({ s with clips :=
            { (s.clips.setVariant c v x') with mem := writeSamples s.clips.mem x.chain x.written samples } },
         okReply (u32 next))
  | _, _ => (s, refuse .badField)

/-- CLIP_ABORT (R77). -/
def handleClipAbort (clip variant : Byte) (s : State) : State × Reply :=
  match indexOf 64 clip, below 4 variant with
  | some c, some v =>
    if (s.clips.variant c v).state = .loading then
      let clips := s.clips.freeVariant c v
      ({ s with clips := clips }, okReply (u16 clips.free.length))
    else (s, refuse .wrongState)
  | _, _ => (s, refuse .badField)

end Sys2Proof.Machine
end

