-- ==== Sys2Proof/Machine/Voice.lean ====
section
/-! DEFINITION. The voice channel (chapter 3): announcement records, placement, the voice stack and the
pending list, repeats, live announcements, coverage, the emergency freeze and automatic announcements;
and the clip requests that depend on announcement records (R78, R80). -/

namespace Sys2Proof.Machine

/-! ## Records and ids -/

/-- Change the voice channel. -/
def setVoice (f : Voice → Voice) (s : State) : State := { s with voice := f s.voice }

/-- Every record: the active one, the voice stack and the pending list (R40). -/
def Voice.records (v : Voice) : List Announcement := v.active.toList ++ v.stack ++ v.waiting

/-- The id is held by some record (R40). -/
def idHeld (v : Voice) (id : Byte) : Bool := v.records.any fun r => r.id == id

/-- Some record whose origin is CLIP holds the clip (R66). -/
def clipHeld (v : Voice) (clip : ClipNo) : Bool := v.records.any fun r => r.origin == .clip clip

/-- An announcement ends: its ANN_ENDED notice is queued (R65). -/
def endNotice (id : Byte) (reason : EndReason) (s : State) : State := queueNotice (.annEnded id reason) s

/-- A record joins the pending list behind every record of its own or a higher class and in front of every
record of a lower class (R38). -/
def insertWaiting (list : List Announcement) (r : Announcement) : List Announcement :=
  match list with
  | [] => [r]
  | h :: rest => if h.cls.rank < r.cls.rank then r :: h :: rest else h :: insertWaiting rest r

/-- The pending list holds 16 records (R38). -/
def waitingCapacity : Nat := 16

/-- STACK_LIMIT armed becomes yes when the occupancy is below the depth limit (R43). -/
def rearm (s : State) : State :=
  if s.voice.stack.length < s.settings.depthLimit then
    setVoice (fun v => { v with stackLimitArmed := true }) s
  else s

/-! ## Readers -/

/-- New readers at sample 0, one for each READY variant of the clip (R47). -/
def newReaders (c : Clips) (clip : ClipNo) : List Reader :=
  (variants.filter fun v => (c.variant clip v).state == .ready).map fun v =>
    { clip := clip, variant := v, samples := (c.variant clip v).declared, position := 0 }

/-- The longest reader's sample count (R48). -/
def longest (rs : List Reader) : Nat := rs.foldl (fun m r => max m r.samples) 0

/-- A repeat lasts ceil(nmax/24) lane frames (R48). -/
def repeatLength (rs : List Reader) : Nat := (longest rs + 23) / 24

/-- The readers after a frame has been played (R83). -/
def advanceReaders (rs : List Reader) : List Reader :=
  rs.map fun r => { r with position := min (r.position + 48) (2 * r.samples) }

/-- The active record r starts its current repeat from sample 0 with new readers (R47). -/
def startRepeat (r : Announcement) (s : State) : State :=
  match r.origin with
  | .clip c =>
    setVoice (fun v => { v with
      active := some { r with phase := .playing, framesPlayed := 0 }
      readers := newReaders s.clips c }) s
  | .mic _ => setVoice (fun v => { v with active := some r }) s

/-! ## Placement (R42) -/

/-- Where a record was placed (R41). -/
inductive Placement where
  | active
  | pending
  deriving DecidableEq, Repr

/-- The active record goes on top of the voice stack and its readers stop; r takes the channel awaiting
start (R39, R42, R44). -/
def pushAndTake (a r : Announcement) (s : State) : State :=
  setVoice (fun v => { v with
    active := some { r with awaitingStart := true }
    stack := a :: v.stack
    readers := [] }) s

/-- r takes the idle channel awaiting start (R42, R44, R46). -/
def takeChannel (r : Announcement) (s : State) : State :=
  setVoice (fun v => { v with active := some { r with awaitingStart := true }, readers := [] }) s

/-- r joins the pending list (R38). -/
def joinWaiting (r : Announcement) (s : State) : State :=
  setVoice (fun v => { v with waiting := insertWaiting v.waiting r }) s

/-- The depth limit turned the record away: one STACK_LIMIT notice while armed (R43). -/
def stackLimitMet (r : Announcement) (s : State) : State :=
  if s.voice.stackLimitArmed then
    queueNotice (.stackLimit r.id r.cls s.settings.depthLimit s.voice.stack.length)
      (setVoice (fun v => { v with stackLimitArmed := false }) s)
  else s

/-- Placement of r would put it in the pending list (R42). -/
def placesPending (r : Announcement) (s : State) : Bool :=
  s.emergency.latch ||
    match s.voice.active with
    | none => false
    | some a => !(decide (a.cls.rank < r.cls.rank) && decide (s.voice.stack.length < s.settings.depthLimit))

/-- Placement of an accepted record (R42). -/
def place (r : Announcement) (s : State) : State × Placement :=
  if s.emergency.latch then (joinWaiting r s, .pending)
  else
    match s.voice.active with
    | none => (takeChannel r s, .active)
    | some a =>
      if a.cls.rank < r.cls.rank then
        if s.voice.stack.length < s.settings.depthLimit then (pushAndTake a r s, .active)
        else (stackLimitMet r (joinWaiting r s), .pending)
      else (joinWaiting r s, .pending)

/-- The preemption check places the pending head against the channel (R44). -/
def preemptionCheck (s : State) : State :=
  match s.voice.waiting with
  | [] => s
  | h :: rest =>
    let s' := setVoice (fun v => { v with waiting := rest }) s
    match s.voice.active with
    | none => takeChannel h s'
    | some a =>
      if a.cls.rank < h.cls.rank ∧ s.voice.stack.length < s.settings.depthLimit then pushAndTake a h s'
      else s

/-- The effect of a change of the depth limit: re-arming, and the preemption check when it is raised and
the latch is clear (R44, R61). -/
def depthLimitChanged (old : Nat) (s : State) : State :=
  let s := rearm s
  if old < s.settings.depthLimit ∧ s.emergency.latch = false then preemptionCheck s else s

/-! ## Reselection (R46) -/

/-- The head leaves the pending list and takes the channel (step 1 of R46). -/
def takeHead (h : Announcement) (rest : List Announcement) (s : State) : State :=
  takeChannel h (setVoice (fun v => { v with waiting := rest }) s)

/-- The top is popped, and STACK_LIMIT armed is set again when the occupancy allows (R39, R43). -/
def popped (rest : List Announcement) (s : State) : State :=
  rearm (setVoice (fun v => { v with stack := rest }) s)

/-- What one round of reselection takes (steps 1 to 3 of R46). -/
inductive Pick where
  | head (h : Announcement) (rest : List Announcement)
  | pop (t : Announcement) (below : List Announcement)
  | idle
  deriving DecidableEq, Repr

/-- The pending head when the voice stack is empty or the head's class is strictly above the stack top's,
else the stack top, else nothing (R46). -/
def pick (waiting stack : List Announcement) : Pick :=
  match waiting, stack with
  | [], [] => .idle
  | [], t :: below => .pop t below
  | h :: rest, [] => .head h rest
  | h :: rest, t :: below => if t.cls.rank < h.cls.rank then .head h rest else .pop t below

/-- Why a popped record ends at once, if it does (step 2 of R46). -/
def poppedEnd (t : Announcement) : Option EndReason :=
  if t.withdrawn then some .withdrawn else if t.endDue then some .done else none

/-- Reselection; n bounds the rounds, which are at most one more than the occupancy. -/
def reselectFor (n : Nat) (s : State) : State :=
  match n with
  | 0 => s
  | n + 1 =>
    match pick s.voice.waiting s.voice.stack with
    | .idle => s
    | .head h rest => takeHead h rest s
    | .pop t below =>
      match poppedEnd t with
      | some reason => reselectFor n (endNotice t.id reason (popped below s))
      | none => takeChannel t (popped below s)

/-- Reselection fills the channel when it has freed (R46). -/
def reselect (s : State) : State := reselectFor (s.voice.stack.length + 1) s

/-! ## Ends and progress -/

/-- The active record ends: its readers stop, its id becomes free and ANN_ENDED is queued (R50, R52, R54). -/
def endActive (reason : EndReason) (r : Announcement) (s : State) : State :=
  endNotice r.id reason (setVoice (fun v => { v with active := none, readers := [] }) s)

/-- Step 1 of R57: a due end of the active record. -/
def dueEnds (s : State) : State :=
  match s.voice.active with
  | none => s
  | some r =>
    if r.withdrawn then endActive .withdrawn r s
    else if r.endDue then endActive .done r s
    else s

/-- A repeat of the clip record r is over (R48). -/
def repeatOver (r : Announcement) (s : State) : State :=
  if r.repeats ≤ r.currentRepeat then endActive .done r s
  else if 0 < s.settings.repeatGap then
    setVoice (fun v => { v with
      active := some { r with phase := .gap, gapLeft := s.settings.repeatGap, currentRepeat := r.currentRepeat + 1 }
      readers := [] }) s
  else startRepeat { r with currentRepeat := r.currentRepeat + 1 } s

/-- A clip record in PLAYING after a played frame (R48). -/
def playedClip (r : Announcement) (s : State) : State :=
  let r := { r with framesPlayed := r.framesPlayed + 1 }
  if repeatLength s.voice.readers ≤ r.framesPlayed then repeatOver r s
  else setVoice (fun v => { v with active := some r, readers := advanceReaders v.readers }) s

/-- A clip record in GAP after a played frame (R49). -/
def playedGap (r : Announcement) (s : State) : State :=
  let r := { r with gapLeft := r.gapLeft - 1 }
  if r.gapLeft = 0 then startRepeat r s else setVoice (fun v => { v with active := some r }) s

/-- A live record after a played frame (R52). -/
def playedLive (r : Announcement) (s : State) : State :=
  if 1000 ≤ r.liveFrames + 1 then
    let r := { r with liveFrames := 0, liveSeconds := r.liveSeconds + 1 }
    if s.settings.liveLimit ≤ r.liveSeconds then endActive .timeout r s
    else setVoice (fun v => { v with active := some r }) s
  else setVoice (fun v => { v with active := some { r with liveFrames := r.liveFrames + 1 } }) s

/-- The active record played the frame in progress: it holds the channel, has started and is not frozen
(step 2 of R57). -/
def playing (s : State) : Option Announcement :=
  match s.voice.active with
  | none => none
  | some r => if r.awaitingStart || s.voice.frozenFrame then none else some r

/-- Step 2 of R57: the account of the frame just ended. -/
def accountFrame (s : State) : State :=
  match playing s with
  | none => s
  | some r =>
    match r.origin, r.phase with
    | .clip _, .playing => playedClip r s
    | .clip _, .gap => playedGap r s
    | .mic _, _ => playedLive r s

/-- An active record awaiting start starts, with ANN_STARTED (R45). -/
def startActive (s : State) : State :=
  match s.voice.active with
  | none => s
  | some r =>
    if r.awaitingStart then
      let r' := { r with awaitingStart := false, played := true }
      let s' :=
        match r.phase with
        | .playing => startRepeat r' s
        | .gap => setVoice (fun v => { v with active := some r' }) s
      queueNotice (.annStarted r.id r.played) s'
    else s

/-- A frozen record that had started leaves the freeze (item 1 of R62). -/
def thaw (s : State) : State :=
  match s.voice.active with
  | none => s
  | some r =>
    if r.awaitingStart then s
    else
      match r.phase with
      | .playing => startRepeat r s
      | .gap => s

/-! ## Coverage (R58) -/

/-- The coverage of the frame that begins (R58). -/
def coverageFor (latch : Bool) (frameSet : BerthSet) (v : Voice) : Option Coverage :=
  if latch then none
  else
    match v.active with
    | none => none
    | some r =>
      if r.awaitingStart then none
      else some { berths := r.berths &&& ~~~frameSet, id := r.id, cls := r.cls, card := r.card }

/-- The coverage of a berth in the frame in progress (R58, R59). -/
def coveredBy (v : Voice) (b : Berth) : Option Coverage :=
  match v.coverage with
  | none => none
  | some c => if inSet c.berths b then some c else none

/-! ## Microphones (R51) -/

/-- A sample of microphone m is taken in, or discarded after the 48th of the frame (R51). -/
def Voice.collect (v : Voice) (m : Mic) (x : Sample) : Voice :=
  match m with
  | .micA => if v.collectingA.length < 48 then { v with collectingA := v.collectingA ++ [x] } else v
  | .micB => if v.collectingB.length < 48 then { v with collectingB := v.collectingB ++ [x] } else v

/-- A microphone sample arrives (R51); before the first lane frame start it is lost (R189). -/
def micArrives (m : Mic) (x : Sample) (s : State) : State :=
  if begun s then setVoice (fun v => v.collect m x) s else s

/-- The 48 samples of a frame: those collected in arrival order, then 0 (R51). -/
def padFrame (xs : List Sample) : List Sample := (List.range 48).map fun k => xs.getD k 0

/-- The collected samples become the held samples of the new frame (R51). -/
def Voice.turnMics (v : Voice) : Voice :=
  { v with
    heldA := padFrame v.collectingA
    heldB := padFrame v.collectingB
    collectingA := []
    collectingB := [] }

/-! ## The frame start (R57) -/

/-- Step 3 of R57: reselection when the channel had an active record at the start of the work and has none
now. -/
def reselectIfFreed (had : Bool) (s : State) : State :=
  if had && s.voice.active.isNone then reselect s else s

/-- Step 4 of R57: with the latch clear, the channel leaves a freeze (R62) and an active record awaiting
start starts (R45); with it set, nothing starts. -/
def latchStep (latch : Bool) (s : State) : State :=
  if latch then s
  else if s.voice.frozenFrame then startActive (preemptionCheck (thaw s))
  else startActive s

/-- Step 5 of R57: the coverage of the frame, and the latch as read for it. -/
def coverStep (latch : Bool) (frameSet : BerthSet) (s : State) : State :=
  setVoice (fun v => { v with coverage := coverageFor latch frameSet v, frozenFrame := latch }) s

/-- The voice channel's work at a lane frame start; `latch` and `frameSet` are what their owners hold for
the frame that begins (R57). -/
def voiceFrame (latch : Bool) (frameSet : BerthSet) (s : State) : State :=
  let had := s.voice.active.isSome
  let s := setVoice Voice.turnMics s
  coverStep latch frameSet (latchStep latch (reselectIfFreed had (accountFrame (dueEnds s))))

/-! ## What the berths receive (R47, R59) -/

/-- The reader a berth of a language hears: its own variant's, or variant 0's (R47). -/
def readerFor (rs : List Reader) (language : Fin 4) : Option Reader :=
  match rs.find? (fun r => r.variant == language) with
  | some r => some r
  | none => rs.find? (fun r => r.variant == 0)

/-- The held samples of a microphone. -/
def Voice.heldMic (v : Voice) : Mic → List Sample
  | .micA => v.heldA
  | .micB => v.heldB

/-- 48 samples of 0. -/
def silence : List Sample := List.replicate 48 0

/-- The announcement samples A of a berth for the frame in progress (R59). -/
def annSamples (c : Clips) (v : Voice) (language : Fin 4) (b : Berth) : List Sample :=
  match coveredBy v b, v.active with
  | some _, some r =>
    match r.origin, r.phase with
    | .mic m, _ => v.heldMic m
    | .clip _, .gap => silence
    | .clip _, .playing =>
      match readerFor v.readers language with
      | none => silence
      | some rd => rd.frame c
  | _, _ => silence

/-! ## Events -/

/-- What a progress event does to the record r that plays: an end that is due comes first (step 1 of R57), else
the event acts; a channel that has freed is filled by reselection (R46). -/
def progress (r : Announcement) (act : State → State) (s : State) : State :=
  reselectIfFreed true (if r.withdrawn || r.endDue then dueEnds s else act s)

/-- REPEAT_END (R48): the repeat of the playing clip record is over. The frame in progress, accounted here, is
accounted again at the next lane frame start: a new gap or repeat is one frame short. With a repeat gap of 0 the readers of
the new repeat start here, between two lane frame starts, and the next one moves them on by 48 before they give a sample,
so their outputs 0 to 47 are never heard (R83). DESIGN CHOICE, notes/assumptions/2.md. -/
def repeatEndEvent (s : State) : State :=
  match playing s with
  | none => s
  | some r =>
    match r.origin, r.phase with
    | .clip _, .playing => progress r (repeatOver { r with framesPlayed := repeatLength s.voice.readers }) s
    | _, _ => s

/-- GAP_END (R49): gap frames left reaches 0 and the next repeat starts. The frame in progress, accounted here, is
accounted again at the next lane frame start: the new repeat is one frame short. Its readers start here, between two lane
frame starts, and the next one moves them on by 48 before they give a sample, so their outputs 0 to 47 are never heard
(R83). DESIGN CHOICE, notes/assumptions/2.md. -/
def gapEndEvent (s : State) : State :=
  match playing s with
  | none => s
  | some r =>
    match r.origin, r.phase with
    | .clip _, .gap => progress r (startRepeat { r with gapLeft := 0 }) s
    | _, _ => s

/-- LIVE_TIMEOUT (R52): the live record's elapsed time reaches the live limit. -/
def liveTimeoutEvent (s : State) : State :=
  match playing s with
  | none => s
  | some r =>
    match r.origin with
    | .mic _ => progress r (endActive .timeout r) s
    | .clip _ => s

/-! ## Requests -/

/-- The repeat count of a new record: 1 for a live origin, else the request's, clamped to 1-3 (R41). -/
def repeatsOf (o : Origin) (count : Byte) : Nat :=
  match o with
  | .mic _ => 1
  | .clip _ => clamp 1 3 count.toNat

/-- Check 7 of R41: the origin is CLIP and variant 0 is not READY. -/
def clipMissing (o : Origin) (s : State) : Bool :=
  match o with
  | .mic _ => false
  | .clip c => !variantReady s c 0

/-- The code of a placement (section 11.7.4). -/
def Placement.code : Placement → Byte
  | .active => 0
  | .pending => 1

/-- ANNOUNCE (R41). -/
def handleAnnounce (id cls origin clip : Byte) (berths : BerthSet) (count card : Byte) (s : State) :
    State × Reply :=
  if id = 0 ∨ 240 ≤ id.toNat then (s, refuse .badField)
  else
    match classOf cls, originOf origin clip, cardOf card with
    | some k, some o, some cd =>
      if berths = 0 then (s, refuse .badField)
      else if idHeld s.voice id then (s, refuse .idInUse)
      else if clipMissing o s then (s, refuse .noClip)
      else
        let r : Announcement :=
          { id := id, cls := k, origin := o, berths := berths, repeats := repeatsOf o count, card := cd }
        if placesPending r s && decide (waitingCapacity ≤ s.voice.waiting.length) then (s, refuse .queueFull)
        else
          let (s, p) := place r s
          (s, okReply [p.code])
    | _, _, _ => (s, refuse .badField)

/-- ANN_END (R53). -/
def handleAnnEnd (id : Byte) (s : State) : State × Reply :=
  match s.voice.active with
  | some r =>
    if r.id = id then
      if r.withdrawn then (s, refuse .wrongState)
      else
        let r' :=
          match r.origin, r.phase with
          | .clip _, .playing => { r with repeats := r.currentRepeat }
          | _, _ => { r with endDue := true }
        (setVoice (fun v => { v with active := some r' }) s, okReply [])
    else if idHeld s.voice id then (s, refuse .wrongState)
    else (s, refuse .notFound)
  | none => if idHeld s.voice id then (s, refuse .wrongState) else (s, refuse .notFound)

/-- A withdrawn mark on the stack record of an id (R55). -/
def markStack (stack : List Announcement) (id : Byte) : List Announcement :=
  stack.map fun r => if r.id = id then { r with withdrawn := true } else r

/-- ANN_WITHDRAW of an id that the active record does not hold (R54, R55). -/
def withdrawOther (id : Byte) (s : State) : State × Reply :=
  match s.voice.stack.find? (fun r => r.id == id) with
  | some r =>
    if r.withdrawn then (s, refuse .wrongState)
    else (setVoice (fun v => { v with stack := markStack v.stack id }) s, okReply [])
  | none =>
    if s.voice.waiting.any (fun r => r.id == id) then
      (endNotice id .withdrawn
        (setVoice (fun v => { v with waiting := v.waiting.filter fun r => r.id != id }) s), okReply [])
    else (s, refuse .notFound)

/-- ANN_WITHDRAW (R54, R55). -/
def handleAnnWithdraw (id : Byte) (s : State) : State × Reply :=
  match s.voice.active with
  | some r =>
    if r.id = id then
      if r.withdrawn then (s, refuse .wrongState)
      else (setVoice (fun v => { v with active := some { r with withdrawn := true } }) s, okReply [])
    else withdrawOther id s
  | none => withdrawOther id s

/-- The host fields of a record (section 11.7.7). -/
def Announcement.hostFields (r : Announcement) : List Byte :=
  [r.id, u8 r.cls.rank, r.origin.code, r.origin.clipByte] ++ setField r.berths ++ [u8 r.repeats, cardField r.card]

/-- An active record in ANN_LIST (section 11.7.7). -/
def Announcement.activeFields (r : Announcement) : List Byte :=
  r.hostFields ++ [flag r.played, flag r.awaitingStart, u8 r.currentRepeat, r.phase.code] ++
    u16 r.framesPlayed ++ u16 r.gapLeft ++ u16 r.liveSeconds ++ u16 r.liveFrames ++
    [flag r.endDue, flag r.withdrawn]

/-- A stack record in ANN_LIST (section 11.7.7). -/
def Announcement.stackFields (r : Announcement) : List Byte :=
  r.hostFields ++ [flag r.played, u8 r.currentRepeat, r.phase.code] ++
    u16 r.gapLeft ++ u16 r.liveSeconds ++ [flag r.endDue, flag r.withdrawn]

/-- The channel is frozen: the latch is set and an active record exists (R37). -/
def channelFrozen (s : State) : Bool := s.emergency.latch && s.voice.active.isSome

/-- ANN_LIST (R56, section 11.7.7). -/
def handleAnnList (s : State) : State × Reply :=
  let v := s.voice
  (s, okReply ([flag v.active.isSome, flag (channelFrozen s)] ++
    (v.active.toList.map Announcement.activeFields).flatten ++
    [u8 v.stack.length] ++ (v.stack.reverse.map Announcement.stackFields).flatten ++
    [u8 v.waiting.length] ++ (v.waiting.map Announcement.hostFields).flatten))

/-- CLIP_DELETE (R78, R79). -/
def handleClipDelete (clip : Byte) (s : State) : State × Reply :=
  match indexOf 64 clip with
  | none => (s, refuse .badField)
  | some c =>
    if clipHeld s.voice c then (s, refuse .inUse)
    else
      let clips := s.clips.freeClip c
      ({ s with clips := clips }, okReply (u16 clips.free.length))

/-- CLIP_INFO (R80): each item of the table in turn, for variants 0 to 3. -/
def handleClipInfo (clip : Byte) (s : State) : State × Reply :=
  match indexOf 64 clip with
  | none => (s, refuse .badField)
  | some c =>
    let xs := variants.map fun v => s.clips.variant c v
    (s, okReply ([flag (clipHeld s.voice c)] ++ xs.map (fun x => x.state.code) ++
      (xs.map fun x => u32 x.declared).flatten ++ (xs.map fun x => u32 x.written).flatten ++
      (xs.map fun x => u16 x.chain.length).flatten ++ u16 s.clips.free.length))

/-! ## Automatic announcements (section 3.11) -/

/-- The voice channel's answer to a request for an automatic announcement (R64). -/
inductive AutoAnswer where
  | ok (id : Byte)
  | noClip
  | noId
  | queueFull
  deriving DecidableEq, Repr

/-- The automatic ids in ascending order (R63). -/
def autoIds : List Byte := (List.range 16).map fun k => u8 (240 + k)

/-- The lowest free automatic id (R63). -/
def freeAutoId (v : Voice) : Option Byte := autoIds.find? fun i => !idHeld v i

/-- The clip named, when variant 0 of it is READY (check 1 of R64). -/
def playableName (name : Option ClipNo) (s : State) : Option ClipNo :=
  match name with
  | none => none
  | some c => if variantReady s c 0 then some c else none

/-- An automatic announcement for a berth with a stop's name clip (R64). -/
def autoAnnounce (b : Berth) (name : Option ClipNo) (s : State) : State × AutoAnswer :=
  match playableName name s with
  | none => (s, .noClip)
  | some c =>
    match freeAutoId s.voice with
    | none => (s, .noId)
    | some id =>
      let r : Announcement :=
        { id := id, cls := .stop, origin := .clip c, berths := setOf (fun x => x == b), repeats := 1, card := none }
      if placesPending r s && decide (waitingCapacity ≤ s.voice.waiting.length) then (s, .queueFull)
      else ((place r s).1, .ok id)

end Sys2Proof.Machine
end

