-- ==== Sys2Proof/Machine/Clock.lean ====
section
/-! DEFINITION. The journey clock and the wake scheduler (chapters 7 and 8): counting, the night state, the
stop table, the wake list, its evaluation, ring seconds, chimes and the call button. -/

namespace Sys2Proof.Machine

/-! ## The clock's fields -/

/-- Change the journey clock. -/
def setClock (f : Clock → Clock) (s : State) : State := { s with clock := f s.clock }

/-- The journey minute (R113). -/
def Clock.journeyMinute (c : Clock) : Nat := c.day * 1440 + c.hour * 60 + c.minute

/-- The minute-of-day (R113). -/
def Clock.minuteOfDay (c : Clock) : Nat := c.hour * 60 + c.minute

/-- The clock stands at day 7 23:59:59 (R116). -/
def Clock.atLimit (c : Clock) : Bool := c.day == 7 && c.hour == 23 && c.minute == 59 && c.second == 59

/-- A second tick carries into the minute field (R115). -/
def Clock.carries (c : Clock) : Bool := decide (60 ≤ c.second + 1)

/-- The fields advance by one second with carries (R115). -/
def Clock.advance (c : Clock) : Clock :=
  if c.second + 1 < 60 then { c with second := c.second + 1 }
  else if c.minute + 1 < 60 then { c with second := 0, minute := c.minute + 1 }
  else if c.hour + 1 < 24 then { c with second := 0, minute := 0, hour := c.hour + 1 }
  else { c with second := 0, minute := 0, hour := 0, day := c.day + 1 }

/-- The night is in force at a minute-of-day (R121). -/
def inWindow (start stop t : Nat) : Bool :=
  if start < stop then decide (start ≤ t) && decide (t < stop)
  else if stop < start then decide (start ≤ t) || decide (t < stop)
  else false

/-- Evaluation of the night state with the settings in force and the clock as held (R121, R122). -/
def evaluateNight (s : State) : State :=
  setClock (fun c =>
    { c with night := c.isSet && inWindow s.settings.nightStart s.settings.nightEnd c.minuteOfDay }) s

/-! ## The wake list -/

/-- Change the wake list. -/
def setEntries (f : List WakeEntry → List WakeEntry) (s : State) : State :=
  { s with wake := { s.wake with entries := f s.wake.entries } }

/-- Change one stop. -/
def setStop (t : StopNo) (x : Stop) (s : State) : State :=
  { s with wake := { s.wake with stops := s.wake.stops.set t x } }

/-- The due minute of an entry (R131). -/
def dueMinute (eta lead : Nat) : Nat := eta - lead

/-- An entry goes in front of another: by due minute, then by berth (R131). -/
def WakeEntry.before (x y : WakeEntry) : Bool :=
  decide (x.due < y.due) || (x.due == y.due && decide (x.berth.val < y.berth.val))

/-- An entry takes its place in the list (R131). -/
def insertEntry (list : List WakeEntry) (e : WakeEntry) : List WakeEntry :=
  match list with
  | [] => [e]
  | h :: rest => if e.before h then e :: h :: rest else h :: insertEntry rest e

/-- The entry of a berth. -/
def entryOf (list : List WakeEntry) (b : Berth) : Option WakeEntry := list.find? fun e => e.berth == b

/-- A WAKE_STATE notice for an entry (R143). -/
def wakeNotice (e : WakeEntry) (state : WakeEntryState) (reason : WakeReason) (autoId : Byte) : Notice :=
  .wakeState e.berth e.stop state reason autoId

/-- An ARMED entry whose due minute has come at journey minute m (R135). -/
def WakeEntry.rings (m : Nat) (e : WakeEntry) : Bool := e.state == .armed && decide (e.due ≤ m)

/-- An entry becomes RINGING (R135). -/
def WakeEntry.ring (e : WakeEntry) : WakeEntry :=
  { e with state := .ringing, ringSeconds := 0, deferred := true, cycle := 0 }

/-- Evaluation of the wake list against the journey minute of the clock, when it is SET (R135). -/
def evaluateWake (s : State) : State :=
  if s.clock.isSet then
    let m := s.clock.journeyMinute
    queueNotices ((s.wake.entries.filter (WakeEntry.rings m)).map fun e => wakeNotice e .ringing .due 0)
      (setEntries (fun es => es.map fun e => if e.rings m then e.ring else e) s)
  else s

/-- Ring seconds after a second tick: one more when the chime was audible in the frame that ends (R139). -/
def WakeEntry.countSecond (e : WakeEntry) : WakeEntry :=
  if e.state = .ringing then { e with ringSeconds := if e.deferred then e.ringSeconds else e.ringSeconds + 1 }
  else e

/-- A RINGING entry at or above the ring limit (R139). -/
def WakeEntry.overLimit (limit : Nat) (e : WakeEntry) : Bool :=
  e.state == .ringing && decide (limit ≤ e.ringSeconds)

/-- An entry becomes MISSED; it keeps its ring seconds (R127, R139). -/
def WakeEntry.miss (e : WakeEntry) : WakeEntry := { e with state := .missed, deferred := false }

/-- A second tick reaches the wake scheduler (step 1 of R140, R139). -/
def wakeSecond (s : State) : State :=
  let limit := s.settings.ringLimit
  let counted := s.wake.entries.map WakeEntry.countSecond
  queueNotices ((counted.filter (WakeEntry.overLimit limit)).map fun e => wakeNotice e .missed .limit 0)
    (setEntries (fun _ => counted.map fun e => if e.overLimit limit then e.miss else e) s)

/-! ## Ticks -/

/-- A minute tick: the night state is evaluated, then the wake list with the new journey minute
(R115, step 3 of R117). -/
def minuteTick (s : State) : State := evaluateWake (evaluateNight s)

/-- The clock's own part of a second tick: the fields advance, or the hold acts (R115, R116). -/
def clockSecond (s : State) : State :=
  if s.clock.held then s
  else if s.clock.atLimit then
    queueNotice (.clockLimit s.clock.day s.clock.hour s.clock.minute s.clock.second s.clock.journeyMinute)
      (setClock (fun c => { c with held := true }) s)
  else setClock Clock.advance s

/-- The second tick is also a minute tick: the clock moves and its seconds carry (R115, R116). -/
def isMinuteTick (c : Clock) : Bool := !c.held && !c.atLimit && c.carries

/-- A second tick, with the frame count back at 0: the clock's part, the wake scheduler's part, and the
minute tick when the seconds carry (R114 to R117). -/
def secondTick (s : State) : State :=
  let minute := isMinuteTick s.clock
  let s := wakeSecond (clockSecond (setClock (fun c => { c with frameCount := 0 }) s))
  if minute then minuteTick s else s

/-- The clock's work at a lane frame start (R114, R117). -/
def clockFrame (s : State) : State :=
  if s.clock.isSet then
    if 1000 ≤ s.clock.frameCount + 1 then secondTick s
    else setClock (fun c => { c with frameCount := c.frameCount + 1 }) s
  else s

/-- SECOND_TICK (R115): a SET clock's frame count reaches 1000. -/
def secondTickEvent (s : State) : State := if s.clock.isSet then secondTick s else s

/-- MINUTE_TICK (R115): the seconds of a SET clock have carried into the minute. -/
def minuteTickEvent (s : State) : State :=
  if s.clock.isSet && !s.clock.held then minuteTick s else s

/-- RING_LIMIT (R139): a RINGING entry reaches the ring limit. -/
def ringLimitEvent (b : Berth) (s : State) : State :=
  match entryOf s.wake.entries b with
  | none => s
  | some e =>
    if e.state = .ringing then
      queueNotice (wakeNotice e .missed .limit 0)
        (setEntries (fun es => es.map fun x =>
          if x.berth = b then { x.miss with ringSeconds := max x.ringSeconds s.settings.ringLimit } else x) s)
    else s

/-! ## Chimes (R137, R138) -/

/-- A RINGING entry judged for the new frame (R137, R138). -/
def WakeEntry.judge (audible : Bool) (e : WakeEntry) : WakeEntry :=
  if e.state = .ringing then
    if audible then
      if e.deferred then { e with deferred := false, cycle := 0 }
      else { e with cycle := if e.cycle = 999 then 0 else e.cycle + 1 }
    else { e with deferred := true, cycle := 0 }
  else e

/-- The chime of a berth is audible in the frame that begins: the berth is PRESENT, not covered, not in the
lane test set, and the latch is clear (R137). -/
def chimeAudible (s : State) (b : Berth) : Bool :=
  s.berths[b].present && (coveredBy s.voice b).isNone && !inSet s.test.frameSet b && !s.emergency.latch

/-- Step 3 of R140: chimes are judged. -/
def chimeFrame (s : State) : State :=
  setEntries (fun es => es.map fun e => e.judge (chimeAudible s e.berth)) s

/-- The chime sample C of a RINGING audible entry at sample period k: ±8192 in frames 0 to 399 of the
cycle (R92, R138). -/
def WakeEntry.chimeAt (e : WakeEntry) (k : Nat) : Int :=
  if e.state = .ringing ∧ e.deferred = false ∧ e.cycle < 400 then (if k < 24 then 8192 else -8192) else 0

/-- The chime sample of a berth (R137). -/
def chimeSample (es : List WakeEntry) (b : Berth) (k : Nat) : Int :=
  match entryOf es b with
  | none => 0
  | some e => e.chimeAt k

/-! ## The call button (R141) -/

/-- The reason and id of the WAKE_STATE notice for the voice channel's answer (R141, R143). -/
def answerReason : AutoAnswer → WakeReason × Byte
  | .ok id => (.announced, id)
  | .noClip => (.noClip, 0)
  | .noId => (.noId, 0)
  | .queueFull => (.queueFull, 0)

/-- An entry is acknowledged (R141). -/
def WakeEntry.acknowledge (e : WakeEntry) : WakeEntry := { e with state := .acked, deferred := false }

/-- An accepted call press of a berth (R141, R144). -/
def callPress (b : Berth) (s : State) : State :=
  match entryOf s.wake.entries b with
  | none => queueNotice (.call b) s
  | some e =>
    if e.state = .ringing then
      let s := setEntries (fun es => es.map fun x => if x.berth = b then x.acknowledge else x) s
      let (s, answer) := autoAnnounce b s.wake.stops[e.stop].nameClip s
      let (reason, id) := answerReason answer
      queueNotice (wakeNotice e .acked reason id) s
    else queueNotice (.call b) s

/-! ## Clock requests -/

/-- CLOCK_SET (R118). -/
def handleClockSet (day hour minute second : Byte) (s : State) : State × Reply :=
  if 7 < day.toNat ∨ 23 < hour.toNat ∨ 59 < minute.toNat ∨ 59 < second.toNat then (s, refuse .badField)
  else
    let s := evaluateNight (setClock (fun c =>
      { c with isSet := true, day := day.toNat, hour := hour.toNat, minute := minute.toNat,
               second := second.toNat, frameCount := 0, held := false }) s)
    let reply := okReply (clockFields s.clock.day s.clock.hour s.clock.minute s.clock.second ++ [flag s.clock.night])
    (evaluateWake s, reply)

/-- CLOCK_GET (R120, section 11.7.5). -/
def handleClockGet (s : State) : State × Reply :=
  let c := s.clock
  (s, okReply ([flag c.isSet, flag c.held] ++ clockFields c.day c.hour c.minute c.second ++
    u16 c.frameCount ++ u16 c.journeyMinute ++ [flag c.night]))

/-! ## Stop requests -/

/-- The greatest journey minute (R126). -/
def lastJourneyMinute : Nat := 11519

/-- The entries of a stop take new due minutes and their places again (steps 1 and 2 of R136). -/
def reviseEntries (t : StopNo) (eta : Nat) (es : List WakeEntry) : List WakeEntry :=
  ((es.filter fun e => e.stop == t).map fun e => { e with due := dueMinute eta e.lead }).foldl insertEntry
    (es.filter fun e => e.stop != t)

/-- STOP_SET (R126, R136). -/
def handleStopSet (stop : Byte) (eta : BitVec 16) (nameClip : Byte) (s : State) : State × Reply :=
  match indexOf 24 stop, nameClipOf nameClip with
  | some t, some name =>
    if s.wake.stops[t].state = .passed then (s, refuse .wrongState)
    else
      let e := min eta.toNat lastJourneyMinute
      let s := setEntries (reviseEntries t e) (setStop t { state := .ahead, eta := e, nameClip := name } s)
      (evaluateWake s, okReply (u16 e))
  | _, _ => (s, refuse .badField)

/-- An entry of a stop that is ARMED or RINGING. -/
def WakeEntry.live (t : StopNo) (e : WakeEntry) : Bool :=
  e.stop == t && (e.state == .armed || e.state == .ringing)

/-- STOP_PASSED (R127). -/
def handleStopPassed (stop : Byte) (s : State) : State × Reply :=
  match indexOf 24 stop with
  | none => (s, refuse .badField)
  | some t =>
    if s.wake.stops[t].state = .ahead then
      let missed := s.wake.entries.filter (WakeEntry.live t)
      let s := setEntries (fun es => es.map fun e => if e.live t then e.miss else e)
        (setStop t { s.wake.stops[t] with state := .passed } s)
      (queueNotices (missed.map fun e => wakeNotice e .missed .passed 0) s, okReply [])
    else (s, refuse .wrongState)

/-- STOP_CLEAR (R128). -/
def handleStopClear (stop : Byte) (s : State) : State × Reply :=
  match indexOf 24 stop with
  | none => (s, refuse .badField)
  | some t =>
    if s.wake.entries.any (WakeEntry.live t) then (s, refuse .inUse)
    else (setEntries (fun es => es.filter fun e => e.stop != t) (setStop t {} s), okReply [])

/-- A stop in STOP_LIST (R129, R190). -/
def Stop.fields (t : Stop) : List Byte := t.state.code :: (u16 t.eta ++ [clipField t.nameClip])

/-- STOP_LIST (R129). -/
def handleStopList (s : State) : State × Reply :=
  (s, okReply ((s.wake.stops.toList.map Stop.fields).flatten))

/-! ## Wake requests -/

/-- WAKE_SET (R132). -/
def handleWakeSet (berth stop lead : Byte) (s : State) : State × Reply :=
  match indexOf 40 berth, indexOf 24 stop with
  | some b, some t =>
    if s.wake.stops[t].state = .ahead then
      let l := clamp 5 60 lead.toNat
      let e : WakeEntry := { berth := b, stop := t, lead := l, due := dueMinute s.wake.stops[t].eta l }
      let s := evaluateWake (setEntries (fun es => insertEntry (es.filter fun x => x.berth != b) e) s)
      let state := match entryOf s.wake.entries b with
        | none => WakeEntryState.armed
        | some x => x.state
      (s, okReply ([u8 l] ++ u16 e.due ++ [state.code]))
    else (s, refuse .wrongState)
  | _, _ => (s, refuse .badField)

/-- WAKE_CANCEL (R133). -/
def handleWakeCancel (berth : Byte) (s : State) : State × Reply :=
  match indexOf 40 berth with
  | none => (s, refuse .badField)
  | some b =>
    if (entryOf s.wake.entries b).isSome then
      (setEntries (fun es => es.filter fun x => x.berth != b) s, okReply [])
    else (s, refuse .notFound)

/-- An entry in WAKE_LIST (R134). -/
def WakeEntry.fields (e : WakeEntry) : List Byte :=
  [number e.berth, number e.stop, u8 e.lead] ++ u16 e.due ++ [e.state.code] ++ u16 e.ringSeconds ++ [flag e.deferred]

/-- WAKE_LIST (R134). -/
def handleWakeList (s : State) : State × Reply :=
  (s, okReply (u8 s.wake.entries.length :: (s.wake.entries.map WakeEntry.fields).flatten))

end Sys2Proof.Machine
end

