-- ==== Sys2Proof/Machine/Lanes.lean ====
section
/-! DEFINITION. The lane controller (chapter 9): frame timer, lane states, upstream slots, presence, status
debounce and the lane test. -/

namespace Sys2Proof.Machine

/-! ## Frame timer -/

/-- Change the frame timer. -/
def setTimer (f : Timer → Timer) (s : State) : State := { s with timer := f s.timer }

/-- The port strobe is present when the strobe age is below 4 (R146). -/
def Timer.strobePresent (t : Timer) : Bool := decide (t.strobeAge < 4)

/-- The strobe age at a lane frame start (R146). -/
def Timer.nextAge (t : Timer) (byStrobe : Bool) : Nat :=
  if t.strobeSeen || byStrobe then 0 else min (t.strobeAge + 1) 4

/-- The reference after a lane frame start whose updated strobe age is `age` (R148, R149). -/
def Timer.nextReference (t : Timer) (age : Nat) : Reference :=
  match t.requested with
  | some .localOsc => .localOsc
  | some .port => if age < 4 then .port else .localOsc
  | none => if age < 4 then t.reference else .localOsc

/-- A REFERENCE notice with reason LOST is due at a lane frame start: the reference is PORT, or PORT is
requested, and the strobe is absent (R148, R149). -/
def Timer.loses (t : Timer) (age : Nat) : Bool :=
  decide (4 ≤ age) && (t.reference == .port || t.requested == some .port)

/-- The timer's work at a lane frame start (step 1 of R161). -/
def timerFrame (byStrobe : Bool) (s : State) : State :=
  let t := s.timer
  let age := t.nextAge byStrobe
  let s' := setTimer (fun t =>
    { reference := t.nextReference age, requested := none, strobeAge := age, strobeSeen := false,
      frameNumber := t.frameNumber + 1 }) s
  if t.loses age then queueNotice .referenceLost s' else s'

/-- A strobe that issues no lane frame start (R147). -/
def strobeSeen (s : State) : State := setTimer (fun t => { t with strobeSeen := true }) s

/-- REFERENCE_LOST (R149): on the PORT reference the strobe age reaches 4. -/
def referenceLostEvent (s : State) : State :=
  if s.timer.reference = .port then
    queueNotice .referenceLost (setTimer (fun t => { t with reference := .localOsc, strobeAge := 4 }) s)
  else s

/-- REFERENCE_SET (R148). -/
def handleReferenceSet (reference : Byte) (s : State) : State × Reply :=
  match referenceOf reference with
  | none => (s, refuse .badField)
  | some r =>
    if r = .port ∧ s.timer.strobePresent = false then (s, refuse .noReference)
    else (setTimer (fun t => { t with requested := some r }) s, okReply [])

/-! ## Berths: presence, debounce and reports -/

/-- Change what the lane controller holds for a berth. -/
def setBerth (b : Berth) (f : BerthLink → BerthLink) (s : State) : State :=
  { s with berths := amend s.berths b f }

/-- Change a lane. -/
def setLane (l : LaneNo) (f : Lane → Lane) (s : State) : State := { s with lanes := amend s.lanes l f }

/-- A change that may be reported finds the flag clear: a BERTH_CHANGE notice is queued and the flag set
(R159). -/
def reportChange (b : Berth) (s : State) : State :=
  let x := s.berths[b]
  if x.changePending then s
  else
    queueNotice (.berthChange b x.present x.headphone.accepted x.screen.accepted)
      (setBerth b (fun x => { x with changePending := true }) s)

/-- Going ABSENT: runs 0, accepted values at their defaults, candidates cleared (R157). -/
def BerthLink.goAbsent (x : BerthLink) : BerthLink :=
  { x with
    present := false
    validRun := 0
    invalidRun := 0
    headphone := { accepted := false }
    call := { accepted := false }
    screen := { accepted := false }
    knob := { accepted := 0 } }

/-- A berth goes ABSENT; a change of presence is reported (R157, R159). -/
def makeAbsent (b : Berth) (s : State) : State :=
  let was := s.berths[b].present
  let s := setBerth b BerthLink.goAbsent s
  if was then reportChange b s else s

/-- The berths of a lane go ABSENT, in slot order (R151, R153, R157). -/
def laneAbsent (l : LaneNo) (s : State) : State := (berthsOf l).foldl (fun s b => makeAbsent b s) s

/-- A value through the debounce of one field (R158). -/
def Debounced.sample {α : Type} [DecidableEq α] (d : Debounced α) (v : α) : Debounced α :=
  if d.candidate = some v then { d with run := min (d.run + 1) 3 }
  else { d with candidate := some v, run := 1 }

/-- The accepted value becomes the candidate, if there is one (R158). -/
def Debounced.accept {α : Type} (d : Debounced α) : Debounced α :=
  match d.candidate with
  | none => d
  | some v => { d with accepted := v }

/-- A field whose run is 3 takes its candidate (R158). -/
def Debounced.settle {α : Type} (d : Debounced α) : Debounced α := if d.run = 3 then d.accept else d

/-- The four field values of a status byte through the debounce (R156, R158, section 11.7.9). -/
def BerthLink.debounce (x : BerthLink) (status : Byte) : BerthLink :=
  { x with
    headphone := x.headphone.sample (status.getLsbD 7)
    call := x.call.sample (status.getLsbD 6)
    screen := x.screen.sample (status.getLsbD 5)
    knob := x.knob.sample (status.extractLsb' 0 4).toFin }

/-- Every field whose run is 3 takes its candidate (R158). -/
def BerthLink.settle (x : BerthLink) : BerthLink :=
  { x with
    headphone := x.headphone.settle
    call := x.call.settle
    screen := x.screen.settle
    knob := x.knob.settle }

/-- The accepted call field has changed from released to pressed (R158). -/
def pressedNow (before after : BerthLink) : Bool := !before.call.accepted && after.call.accepted

/-- The accepted headphone or screen field has changed (R159). -/
def reportable (before after : BerthLink) : Bool :=
  before.headphone.accepted != after.headphone.accepted || before.screen.accepted != after.screen.accepted

/-- What an accepted change brings about: a report when one is due, then the call press (R159, R160). -/
def afterAccept (b : Berth) (report press : Bool) (s : State) : State :=
  let s := if report then reportChange b s else s
  if press then callPress b s else s

/-- A berth becomes PRESENT with both runs as given; each field whose run is 3 takes its candidate
(R157, R158, R160). -/
def makePresent (b : Berth) (s : State) : State :=
  let x := s.berths[b]
  let x' := { x with present := true }.settle
  afterAccept b true (pressedNow x x') (setBerth b (fun _ => x') s)

/-- The valid run and the invalid run after a valid slot (R157). -/
def BerthLink.countValid (x : BerthLink) : BerthLink :=
  { x with validRun := min (x.validRun + 1) 3, invalidRun := 0 }

/-- The valid run and the invalid run after an invalid or missing slot (R157). -/
def BerthLink.countInvalid (x : BerthLink) : BerthLink :=
  { x with invalidRun := min (x.invalidRun + 1) 8, validRun := 0 }

/-- A valid slot of a berth: runs and debounce, then the change to PRESENT at the third valid slot, or the
acceptance of changed fields of a PRESENT berth (R157, R158). -/
def validSlot (b : Berth) (status : Byte) (s : State) : State :=
  let s := setBerth b (fun x => (x.debounce status).countValid) s
  let x := s.berths[b]
  if x.present then
    let x' := x.settle
    afterAccept b (reportable x x') (pressedNow x x') (setBerth b (fun _ => x') s)
  else if x.validRun = 3 then makePresent b s
  else s

/-- An invalid or missing slot of a berth (R157). -/
def invalidSlot (b : Berth) (s : State) : State :=
  let s := setBerth b BerthLink.countInvalid s
  let x := s.berths[b]
  if x.present && x.invalidRun == 8 then makeAbsent b s else s

/-! ## The test checker (R166) -/

/-- The words sent to a berth in a frame. -/
def wordsFor (ws : List BerthWords) (b : Berth) : List Sample :=
  match ws.find? (fun w => w.berth == b) with
  | none => []
  | some w => w.words

/-- The words sent to a berth two frames before the frame in progress (R162, R166). -/
def sentTwoBefore (t : LaneTest) (b : Berth) : List Sample := wordsFor (t.recent.getD 1 []) b

/-- The number of words that differ from those sent in the same sample positions (R166). -/
def mismatches (sent got : List Sample) : Nat :=
  ((List.range 48).filter fun k => sent.getD k 0 != got.getD k 0).length

/-- The checker acts for the frame in progress on this berth: the test runs, the berth is tested, and the
frame is the third of the test or later (R166). -/
def checked (s : State) (b : Berth) : Bool :=
  s.test.running && inSet s.test.tested b && decide (3 ≤ s.test.frame)

/-- Raise a tested berth's TEST_ERR (R166). -/
def testErrors (b : Berth) (n : Nat) (s : State) : State :=
  if checked s b then raise (.testErr b) n s else s

/-! ## Upstream slots (R156) -/

/-- The bytes of an upstream slot before its CRC (section 11.7.9). -/
def slotBytes (slot : UpSlot) : List Byte :=
  be16 slot.echo ++ [slot.status] ++ (slot.loopback.map be16).flatten

/-- The slot's CRC is correct (R177). -/
def slotCrcGood (slot : UpSlot) : Bool := crc16 (slotBytes slot) == slot.crc

/-- The echo equals the current frame number less 2, modulo 65536 (R153, R156). -/
def echoGood (s : State) (echo : BitVec 16) : Bool := echo == s.timer.frameNumber - 2

/-- An upstream slot of a berth arrives (R156, R157, R158, R166). DESIGN CHOICE for a valid slot of a tested berth that is
ABSENT: its words are compared as the first bullet of R166 says, and the 48 of the rule's closing sentence are not counted
(notes/assumptions/40.md). -/
def slotArrives (b : Berth) (slot : UpSlot) (s : State) : State :=
  if s.lanes[laneOf b].state ≠ .up ∨ s.berths[b].slotJudged then s
  else
    let s := setBerth b (fun x => { x with slotJudged := true }) s
    if slotCrcGood slot then
      if echoGood s slot.echo then
        validSlot b slot.status (testErrors b (mismatches (sentTwoBefore s.test b) slot.loopback) s)
      else invalidSlot b (testErrors b 48 s)
    else invalidSlot b (testErrors b 48 (raise (.slotErr b) 1 s))

/-- BERTH_PRESENT (R157): the valid run of an ABSENT berth of an UP lane reaches 3. -/
def berthPresentEvent (b : Berth) (s : State) : State :=
  if s.lanes[laneOf b].state = .up ∧ s.berths[b].present = false then
    makePresent b (setBerth b (fun x => { x with validRun := 3, invalidRun := 0 }) s)
  else s

/-- BERTH_ABSENT (R157): a PRESENT berth goes ABSENT. -/
def berthAbsentEvent (b : Berth) (s : State) : State :=
  if s.berths[b].present then makeAbsent b s else s

/-- One field takes its candidate with the run at 3 (R158). -/
def BerthLink.acceptField (x : BerthLink) : StatusField → BerthLink
  | .headphone => { x with headphone := { x.headphone with run := 3 }.accept }
  | .call => { x with call := { x.call with run := 3 }.accept }
  | .screen => { x with screen := { x.screen with run := 3 }.accept }
  | .knob => { x with knob := { x.knob with run := 3 }.accept }

/-- A field has a candidate that differs from its accepted value. -/
def BerthLink.fieldWaits (x : BerthLink) : StatusField → Bool
  | .headphone => x.headphone.candidate.isSome && x.headphone.candidate != some x.headphone.accepted
  | .call => x.call.candidate.isSome && x.call.candidate != some x.call.accepted
  | .screen => x.screen.candidate.isSome && x.screen.candidate != some x.screen.accepted
  | .knob => x.knob.candidate.isSome && x.knob.candidate != some x.knob.accepted

/-- STATUS_FIELD_ACCEPTED (R158): the candidate run of a field of a PRESENT berth reaches 3. -/
def fieldAcceptedEvent (b : Berth) (f : StatusField) (s : State) : State :=
  let x := s.berths[b]
  if x.present && x.fieldWaits f then
    let x' := x.acceptField f
    afterAccept b (reportable x x') (pressedNow x x') (setBerth b (fun _ => x') s)
  else s

/-! ## Lanes (R150 to R153) -/

/-- A change of a lane's state is reported (R153). -/
def laneNotice (l : LaneNo) (before after : LaneState) (cause : LaneCause) (s : State) : State :=
  queueNotice (.laneState l before after cause) s

/-- A lane in a new state with both runs 0 and no trailer taken. For a lane that LANE_SET disables this is a
DESIGN CHOICE: R151 says 'runs 0' for the enabled lane alone (notes/assumptions/38.md). -/
def Lane.enter (x : Lane) (state : LaneState) : Lane :=
  { x with state := state, goodRun := 0, badRun := 0, trailerReceived := false, trailerGood := false }

/-- A DOWN lane becomes UP (R153). -/
def laneTrains (l : LaneNo) (s : State) : State :=
  laneNotice l .down .up .trained (setLane l (fun x => x.enter .up) s)

/-- An UP lane loses sync (R153). -/
def laneLoses (l : LaneNo) (s : State) : State :=
  laneAbsent l (laneNotice l .up .down .lost (raise (.syncLoss l) 1 (setLane l (fun x => x.enter .down) s)))

/-- A lane judges the frame just ended (R153). -/
def judgeLane (l : LaneNo) (s : State) : State :=
  let x := s.lanes[l]
  let clear := fun (x : Lane) => { x with trailerReceived := false, trailerGood := false }
  match x.state with
  | .disabled => s
  | .down =>
    if x.trailerGood then
      if 16 ≤ x.goodRun + 1 then laneTrains l s
      else setLane l (fun x => clear { x with goodRun := x.goodRun + 1 }) s
    else setLane l (fun x => clear { x with goodRun := 0 }) s
  | .up =>
    if x.trailerGood then setLane l (fun x => clear { x with badRun := 0 }) s
    else if 8 ≤ x.badRun + 1 then laneLoses l s
    else setLane l (fun x => clear { x with badRun := x.badRun + 1 }) s

/-- A trailer arrives and is judged (R153). -/
def trailerArrives (l : LaneNo) (echo crc : BitVec 16) (s : State) : State :=
  let x := s.lanes[l]
  if x.state = .disabled ∨ x.trailerReceived then s
  else
    setLane l (fun x =>
      { x with trailerReceived := true, trailerGood := crc16 (be16 echo) == crc && echoGood s echo }) s

/-- LANE_TRAINED (R153): a DOWN lane's good run reaches 16. -/
def laneTrainedEvent (l : LaneNo) (s : State) : State :=
  if s.lanes[l].state = .down then laneTrains l s else s

/-- LANE_SYNC_LOSS (R153): an UP lane's bad run reaches 8. -/
def laneSyncLossEvent (l : LaneNo) (s : State) : State :=
  if s.lanes[l].state = .up then laneLoses l s else s

/-! ## The frame start: closing and test (steps 2 and 3 of R161) -/

/-- A berth of an UP lane that received no slot is treated as having received an invalid one (R156). -/
def missingSlot (s : State) (b : Berth) : Bool :=
  s.lanes[laneOf b].state == .up && !s.berths[b].slotJudged

/-- Missing slots are counted as invalid (R156, R157). -/
def closeSlots (s : State) : State :=
  (List.finRange 40).foldl (fun s b => if missingSlot s b then invalidSlot b s else s) s

/-- The checker accounts 48 errors for each tested berth whose slot was not compared on arrival (R166). -/
def closeChecker (s : State) : State :=
  (List.finRange 40).foldl (fun s b => if s.berths[b].slotJudged then s else testErrors b 48 s) s

/-- Each lane judges the frame just ended (R153). -/
def closeLanes (s : State) : State := (List.finRange 4).foldl (fun s l => judgeLane l s) s

/-- No slot of the new frame has been judged yet. -/
def openSlots (s : State) : State :=
  { s with berths := tabulate fun b => { s.berths[b] with slotJudged := false } }

/-- Step 2 of R161. -/
def closeFrame (s : State) : State := openSlots (closeLanes (closeChecker (closeSlots s)))

/-- Step 3 of R161: a RUNNING test ends when the latch is set for the new frame (R167), and the tested set
of the frame is fixed (R162). -/
def testFrame (latch : Bool) (s : State) : State :=
  let t := s.test
  let t' := if latch && t.running then
      { t with running := false, lastEnd := .emergency, tested := 0, words := [], recent := [] }
    else t
  { s with test := { t' with frameSet := if t'.running then t'.tested else 0 } }

/-! ## The generator (R164, R165) -/

/-- One step of the generator: its new bit and its new places (R164). -/
def generatorStep (g : BitVec 15) : Bool × BitVec 15 :=
  let bit := g.getLsbD 13 != g.getLsbD 14
  (bit, (g <<< 1) ||| (if bit then 1#15 else 0#15))

/-- n bits of a test word, the first bit most significant (R164). -/
def generatorBits (n : Nat) (acc : Sample) (g : BitVec 15) : Sample × BitVec 15 :=
  match n with
  | 0 => (acc, g)
  | n + 1 =>
    let (bit, g) := generatorStep g
    generatorBits n ((acc <<< 1) ||| (if bit then 1#16 else 0#16)) g

/-- n successive test words (R164). -/
def generatorWords (n : Nat) (g : BitVec 15) : List Sample × BitVec 15 :=
  match n with
  | 0 => ([], g)
  | n + 1 =>
    let (w, g) := generatorBits 16 0 g
    let (ws, g) := generatorWords n g
    (w :: ws, g)

/-- 48 words for each of the berths in turn (R165). -/
def wordsOfBerths (bs : List Berth) (g : BitVec 15) : List BerthWords × BitVec 15 :=
  match bs with
  | [] => ([], g)
  | b :: rest =>
    let (w, g) := generatorWords 48 g
    let (ws, g) := wordsOfBerths rest g
    ({ berth := b, words := w } :: ws, g)

/-- The words of a frame of a running test are handed out; the words of the two frames before it are kept
(R162, R165). -/
def handOutWords (s : State) : State :=
  if s.test.running then
    let t := s.test
    let (ws, g) := wordsOfBerths (members t.tested) t.generator
    { s with test :=
      { t with frame := min (t.frame + 1) 65535, generator := g, words := ws, recent := (t.words :: t.recent).take 2 } }
  else s

/-! ## Requests -/

/-- LANE_SET (R151). -/
def handleLaneSet (lane enable : Byte) (s : State) : State × Reply :=
  match indexOf 4 lane, yesNo enable with
  | some l, some true =>
    match s.lanes[l].state with
    | .disabled => (laneNotice l .disabled .down .request (setLane l (fun x => x.enter .down) s), okReply [])
    | .down => (s, okReply [])
    | .up => (s, okReply [])
  | some l, some false =>
    match s.lanes[l].state with
    | .disabled => (s, okReply [])
    | .down => (laneNotice l .down .disabled .request (setLane l (fun x => x.enter .disabled) s), okReply [])
    | .up =>
      (laneAbsent l (laneNotice l .up .disabled .request (setLane l (fun x => x.enter .disabled) s)), okReply [])
  | _, _ => (s, refuse .badField)

/-- The berths of a reset lane: ABSENT, cleared debounce and a cleared BERTH_CHANGE flag, without a notice
(R152). -/
def resetLaneBerths (l : LaneNo) (s : State) : State :=
  { s with berths := tabulate fun b =>
      if laneOf b = l then { s.berths[b].goAbsent with changePending := false } else s.berths[b] }

/-- LANE_RESET (R152). -/
def handleLaneReset (lane : Byte) (s : State) : State × Reply :=
  match indexOf 4 lane with
  | none => (s, refuse .badField)
  | some l =>
    let before := s.lanes[l].state
    let s := resetLaneBerths l (setLane l (fun x => x.enter .down) s)
    (if before = .down then s else laneNotice l before .down .request s, okReply [])

/-- The berths that are PRESENT. -/
def presentSet (s : State) : BerthSet := setOf fun b => s.berths[b].present

/-- LANE_TEST_START (R163). -/
def handleLaneTestStart (berths : BerthSet) (s : State) : State × Reply :=
  if berths = 0 then (s, refuse .badField)
  else if s.test.running ∨ s.emergency.latch then (s, refuse .wrongState)
  else
    let tested := berths &&& presentSet s
    if tested = 0 then (s, refuse .wrongState)
    else
      ({ s with test :=
          { s.test with running := true, tested := tested, frame := 0, generator := BitVec.allOnes 15,
                        words := [], recent := [] } },
       okReply (setField tested))

/-- LANE_TEST_STOP (R167). -/
def handleLaneTestStop (s : State) : State × Reply :=
  if s.test.running then
    ({ s with test := { s.test with running := false, lastEnd := .stopped, tested := 0, words := [], recent := [] } },
     okReply (u16 s.test.frame ++ setField s.test.tested))
  else (s, refuse .wrongState)

end Sys2Proof.Machine
end

