-- ==== Sys2Proof/Machine/Programmes.lean ====
section
/-! DEFINITION. The programme input unit: cells, audio blocks, entry-point intervals and the stall limit
(chapter 2). -/

namespace Sys2Proof.Machine

/-- Change one programme's record. -/
def setProgramme (p : ProgrammeNo) (f : Programme → Programme) (s : State) : State :=
  { s with programmes := amend s.programmes p f }

/-! ## Cells -/

/-- The measurement at an entry-point cell of a RUNNING programme whose counter is at n (R29). -/
def Programme.record (r : Programme) (n : Nat) : Programme :=
  { r with
    lastInterval := some n
    minInterval := some (match r.minInterval with | none => n | some m => min m n)
    maxInterval := some (match r.maxInterval with | none => n | some m => max m n)
    interval := some 0 }

/-- An entry-point cell of programme p arrives (R29, R34). -/
def entryPoint (p : ProgrammeNo) (s : State) : State :=
  let r := s.programmes[p]
  match r.state with
  | .running => setProgramme p (fun r => r.record (r.interval.getD 0)) s
  | before =>
    queueNotice (.programmeState p before .running)
      (setProgramme p (fun r => { r with state := .running, interval := some 0 }) s)

/-- A cell of programme p is appended to the receiving list, or dropped and counted (R24). -/
def takeCell (p : ProgrammeNo) (cell : VideoCell) (s : State) : State :=
  if s.programmes[p].receivingCells.length < 4 then
    setProgramme p (fun r => { r with receivingCells := r.receivingCells ++ [cell] }) s
  else raise (.cellDrop p) 1 s

/-- A cell arrives at the programme port (R24, R29); before the first lane frame start it is lost (R23, R189). -/
def cellArrives (programme : Byte) (entry : Bool) (video : List Byte) (s : State) : State :=
  match indexOf 6 programme with
  | none => s
  | some p =>
    if begun s then
      let s := takeCell p { entry := entry, data := video } s
      if entry then entryPoint p s else s
    else s

/-! ## Audio -/

/-- The block carries what its track field names: 1 to 4 tracks of 48 stereo pairs (R26). -/
def audioWellMade (trackField : Byte) (tracks : List (List (Sample × Sample))) : Bool :=
  decide (1 ≤ trackField.toNat) && decide (trackField.toNat ≤ 4) && tracks.length == trackField.toNat &&
    tracks.all fun t => t.length == 48

/-- An audio block arrives (R26); before the first lane frame start it is lost (R23, R189). -/
def audioArrives (programme trackField : Byte) (tracks : List (List (Sample × Sample))) (complete : Bool)
    (s : State) : State :=
  match indexOf 6 programme with
  | none => s
  | some p =>
    if begun s && complete && audioWellMade trackField tracks && s.programmes[p].receivingAudio.isNone then
      setProgramme p (fun r => { r with receivingAudio := some { tracks := tracks } }) s
    else s

/-! ## The frame start -/

/-- Programme p becomes STALLED (R28, R34). -/
def stall (p : ProgrammeNo) (s : State) : State :=
  queueNotice (.programmeState p .running .stalled)
    (raise (.stalls p) 1 (setProgramme p (fun r => { r with state := .stalled, interval := none }) s))

/-- The interval counter at a lane frame start (R28). -/
def countInterval (p : ProgrammeNo) (s : State) : State :=
  let r := s.programmes[p]
  if r.state = .running then
    let n := r.interval.getD 0 + 1
    if s.settings.stallLimit ≤ n then stall p s
    else setProgramme p (fun r => { r with interval := some n }) s
  else s

/-- Lists and audio move on, and the declared count comes into force (R25, R27, R32). -/
def Programme.advance (r : Programme) : Programme :=
  { r with
    countInForce := r.trackCount
    forwardingCells := r.receivingCells
    receivingCells := []
    forwardingAudio := r.receivingAudio
    receivingAudio := none }

/-- The samples of a programme for the frame: a forwarding block that carries at least as many tracks as
the count in force (R27, R31). -/
def Programme.usable (r : Programme) : Option AudioBlock :=
  match r.forwardingAudio with
  | none => none
  | some b => if r.countInForce ≤ b.tracks.length then some b else none

/-- AUDIO_GAP at a lane frame start: the state held for the frame is RUNNING and no block is usable (R27). -/
def countGap (p : ProgrammeNo) (s : State) : State :=
  let r := s.programmes[p]
  if r.state = .running ∧ r.usable = none then raise (.audioGap p) 1 s else s

/-- The unit's work for one programme at a lane frame start (R25, R27, R28). -/
def programmeFrameOf (p : ProgrammeNo) (s : State) : State :=
  countGap p (countInterval p (setProgramme p Programme.advance s))

/-- The unit's work at a lane frame start. -/
def programmeFrame (s : State) : State :=
  (List.finRange 6).foldl (fun s p => programmeFrameOf p s) s

/-- PROGRAMME_STALL (R28): the interval counter of a RUNNING programme reaches the stall limit. -/
def stallEvent (p : ProgrammeNo) (s : State) : State :=
  if s.programmes[p].state = .running then stall p s else s

/-! ## Requests -/

/-- PROGRAMME_SET (R32). -/
def handleProgrammeSet (programme tracks : Byte) (s : State) : State × Reply :=
  match indexOf 6 programme with
  | none => (s, refuse .badField)
  | some p =>
    if 1 ≤ tracks.toNat ∧ tracks.toNat ≤ 4 then
      (setProgramme p (fun r => { r with trackCount := tracks.toNat }) s, okReply [])
    else (s, refuse .badField)

/-- PROGRAMME_STATUS (R33). -/
def handleProgrammeStatus (programme : Byte) (s : State) : State × Reply :=
  match indexOf 6 programme with
  | none => (s, refuse .badField)
  | some p =>
    let r := s.programmes[p]
    (setProgramme p (fun r => { r with minInterval := none, maxInterval := none }) s,
     okReply ([r.state.code, u8 r.countInForce] ++ intervalField r.lastInterval ++
       intervalField r.minInterval ++ intervalField r.maxInterval))

end Sys2Proof.Machine
end

