-- ==== Sys2Proof/Machine/Routes.lean ====
section
/-! DEFINITION. The berth route table (chapter 1): staging, TAKE, the switch guard, video state and mode, the
cells a berth is sent, and the programme sample P. -/

namespace Sys2Proof.Machine

/-- Change what the route table holds for a berth. -/
def setRoute (b : Berth) (f : BerthRoute → BerthRoute) (s : State) : State :=
  { s with routes := amend s.routes b f }

/-! ## Staging and taking -/

/-- A staged record is written for every berth of the set (R3). -/
def stage (set : BerthSet) (r : RouteRecord) (s : State) : State :=
  { s with routes := tabulate fun b =>
      if inSet set b then { s.routes[b] with staged := r } else s.routes[b] }

/-- The six route fields of a ROUTE_SET, when no check of R3 fails on them. -/
def routeFields (programme language conditioning card cap speaker : Byte) : Option RouteRecord :=
  match programmeOf programme, below 4 language, conditioningOf conditioning, cardOf card, below 16 cap,
      yesNo speaker with
  | some p, some l, some c, some cd, some v, some sp =>
    some { programme := p, language := l, conditioning := c, card := cd, cap := v, speaker := sp }
  | _, _, _, _, _, _ => none

/-- What handling a request comes to (R180): a reply, or the hand-over is held until the next lane frame
start (R5). -/
inductive Answer where
  | reply (r : Reply)
  | held
  deriving DecidableEq, Repr

/-- ROUTE_SET (R3, R4): with take-now it is held as a TAKE. -/
def handleRouteSet (berths : BerthSet) (programme language conditioning card cap speaker takeNow : Byte)
    (s : State) : State × Answer :=
  match routeFields programme language conditioning card cap speaker, yesNo takeNow with
  | some r, some now =>
    if berths = 0 then (s, .reply (refuse .badField))
    else (stage berths r s, if now then .held else .reply (okReply []))
  | _, _ => (s, .reply (refuse .badField))

/-- TAKE is held until the next lane frame start applies it (R5). -/
def handleTake (s : State) : State × Answer := (s, .held)

/-- Step 1 of R8: guard remaining is counted down (R7). -/
def BerthRoute.countGuard (x : BerthRoute) : BerthRoute := { x with guard := x.guard - 1 }

/-- Step 2 of R8: a TAKE is applied to a berth; g is the switch-guard setting (R6). -/
def BerthRoute.takeStaged (g : Nat) (x : BerthRoute) : BerthRoute :=
  if x.staged.programme = x.active.programme then { x with active := x.staged }
  else { x with active := x.staged, guard := g, video := .waitingEntry }

/-! ## Video mode and state -/

/-- The card of lines 1 to 6 of R10, the first line whose condition holds; none is programme video. -/
def cardLine (latch inTest : Bool) (annCard : Option Byte) (r : RouteRecord)
    (state : Option ProgrammeState) : Option Byte :=
  if latch then some 255
  else if inTest then some 0
  else
    match annCard, r.card with
    | some c, _ => some c
    | none, some c => some c
    | none, none =>
      match state with
      | none => some 0
      | some .absent => some 254
      | some .stalled => some 254
      | some .running => none

/-- The video state with which R13 is applied: a return from CARD waits for an entry point (R12). -/
def BerthRoute.videoBefore (x : BerthRoute) : VideoState :=
  if x.mode = .card then .waitingEntry else x.video

/-- The cells from the first entry-point cell on (R13). -/
def fromEntry (cells : List VideoCell) : List VideoCell := cells.dropWhile fun c => !c.entry

/-- Programme video is derived for a berth whose programme forwards these cells (lines 7 and 8 of R10, R12,
R13). -/
def BerthRoute.showProgramme (x : BerthRoute) (cells : List VideoCell) : BerthRoute :=
  match x.videoBefore with
  | .passing => { x with video := .passing, mode := .pass, card := 0, cells := cells }
  | .waitingEntry =>
    if cells.any VideoCell.entry then
      { x with video := .passing, mode := .pass, card := 0, cells := fromEntry cells }
    else { x with video := .waitingEntry, mode := .hold, card := 0, cells := [] }

/-- The derived mode, card and video state of a berth (steps 3 and 4 of R8). -/
def BerthRoute.derive (x : BerthRoute) (line : Option Byte) (cells : List VideoCell) : BerthRoute :=
  match line with
  | some c => { x with mode := .card, card := c, cells := [] }
  | none => x.showProgramme cells

/-- The state of the programme a route names, as held for the frame (R31). -/
def routedState (s : State) (r : RouteRecord) : Option ProgrammeState :=
  r.programme.map fun p => s.programmes[p].state

/-- The cells the programme input unit forwards for the programme a route names (R25). -/
def routedCells (s : State) (r : RouteRecord) : List VideoCell :=
  match r.programme with
  | none => []
  | some p => s.programmes[p].forwardingCells

/-- The card of the active announcement of a covered berth (line 3 of R10). -/
def coverCard (v : Voice) (b : Berth) : Option Byte :=
  match coveredBy v b with
  | none => none
  | some c => c.card

/-- Lines 1 to 6 of R10 for a berth, with the values their owners hold for the frame (R8). -/
def berthCardLine (s : State) (b : Berth) (r : RouteRecord) : Option Byte :=
  cardLine s.emergency.latch (inSet s.test.frameSet b) (coverCard s.voice b) r (routedState s r)

/-- The route table's work for a berth at a lane frame start (R8). -/
def routeFrameOf (applyTake : Bool) (s : State) (b : Berth) : BerthRoute :=
  let x := s.routes[b].countGuard
  let x := if applyTake then x.takeStaged s.settings.switchGuard else x
  x.derive (berthCardLine s b x.active) (routedCells s x.active)

/-- The route table's work at a lane frame start. -/
def routeFrame (applyTake : Bool) (s : State) : State :=
  { s with routes := tabulate (routeFrameOf applyTake s) }

/-- SWITCH_GUARD_EXPIRED (R7): a guard counts down to 0. -/
def guardExpiredEvent (b : Berth) (s : State) : State := setRoute b (fun x => { x with guard := 0 }) s

/-! ## Programme audio -/

/-- The track a berth takes: its language's when that is below the track count, else track 0 (R15). -/
def trackFor (language count : Nat) : Nat := if language < count then language else 0

/-- The samples of the programme a route names, when it is RUNNING and they are usable for the frame
(R16, R27). -/
def routedAudio (s : State) (r : RouteRecord) : Option (Programme × AudioBlock) :=
  match r.programme with
  | none => none
  | some p =>
    if s.programmes[p].state = .running then s.programmes[p].usable.map fun b => (s.programmes[p], b)
    else none

/-- The TONE square wave at sample period k (R17). -/
def toneAt (k : Nat) : Sample := if k < 24 then 8192#16 else toSample (-8192)

/-- The programme pair P of a berth at sample period k (R16, R17). -/
def programmePair (s : State) (b : Berth) (k : Nat) : Sample × Sample :=
  let x := s.routes[b]
  match routedAudio s x.active with
  | none => (0, 0)
  | some (p, block) =>
    if 0 < x.guard then (0, 0)
    else
      match x.active.conditioning with
      | .silence => (0, 0)
      | .tone => (toneAt k, toneAt k)
      | .pass => (block.tracks.getD (trackFor x.active.language.val p.countInForce) []).getD k (0, 0)

/-! ## Reading back -/

/-- The six fields of a route record (R190). -/
def RouteRecord.fields (r : RouteRecord) : List Byte :=
  [programmeField r.programme, u8 r.language.val, r.conditioning.code, cardField r.card, u8 r.cap.val, flag r.speaker]

/-- ROUTE_GET (R19). -/
def handleRouteGet (berth : Byte) (s : State) : State × Reply :=
  match indexOf 40 berth with
  | none => (s, refuse .badField)
  | some b =>
    let x := s.routes[b]
    (s, okReply (x.staged.fields ++ x.active.fields ++ [u8 x.guard, x.video.code, x.mode.code, x.card]))

/-- The wake items of BERTH_STATUS (R20, R181): state, stop and deferred flag; NONE is 4. -/
def wakeItems (es : List WakeEntry) (b : Berth) : List Byte :=
  match entryOf es b with
  | none => [4, 0, 0]
  | some e => [e.state.code, number e.stop, flag e.deferred]

/-- The output path of a berth (R94), as chosen for a frame and as reported (R20). -/
def outputPath (latch inTest : Bool) : OutputPath :=
  if latch then .emergency else if inTest then .test else .normal

/-- The coverage items of BERTH_STATUS: not covered while the latch is set (R20, R181). -/
def coverageItems (latch : Bool) (v : Voice) (b : Berth) : List Byte :=
  match if latch then none else coveredBy v b with
  | none => [0, 0]
  | some c => [1, c.id]

/-- The items of BERTH_STATUS (R20). The path and the coverage follow the latch as it stands when the request is
handled (R20, R111). -/
def berthStatusItems (s : State) (b : Berth) : List Byte :=
  let x := s.berths[b]
  let m := s.mixer.berths[b]
  [flag x.present, flag x.headphone.accepted, flag x.call.accepted, flag x.screen.accepted,
   u8 x.knob.accepted.val, u8 m.gains.step] ++
    u16 m.gains.gp ++ u16 m.gains.ga ++ u16 m.gains.gsp ++ u16 m.gains.gsa ++
    [(outputPath s.emergency.latch (inSet s.test.frameSet b)).code, u8 m.peakLevel] ++
    coverageItems s.emergency.latch s.voice b ++ wakeItems s.wake.entries b

/-- BERTH_STATUS (R20): it clears the BERTH_CHANGE pending flag (R21). -/
def handleBerthStatus (berth : Byte) (s : State) : State × Reply :=
  match indexOf 40 berth with
  | none => (s, refuse .badField)
  | some b => (setBerth b (fun x => { x with changePending := false }) s, okReply (berthStatusItems s b))

end Sys2Proof.Machine
end

