-- ==== Sys2Proof/Machine/Mixer.lean ====
section
/-! DEFINITION. The berth mixer (chapter 5): volume curve, gains, accumulation, rounding and clamping, the
emergency and test paths, saturation and peak level; and the downstream frames of the lanes (R154, R155). -/

namespace Sys2Proof.Machine

/-- Change the mixer. -/
def setMixer (f : Mixer → Mixer) (s : State) : State := { s with mixer := f s.mixer }

/-! ## Gains (section 5.3) -/

/-- Half upward rounding by 32768 (R90, R96, R99). -/
def roundQ15 (x : Int) : Int := (x + 16384) / 32768

/-- The duck of a programme gain (step 3 of R90). -/
def duck (gp d : Nat) : Nat := (gp * d + 16384) / 32768

/-- The programme gain from the curve entry (R90). -/
def programmeGain (curveGain : Nat) (night covered : Bool) (ceiling d : Nat) : Nat :=
  let g := if night then min curveGain ceiling else curveGain
  if covered then duck g d else g

/-- The class gain setting of a class (R91). -/
def classGain (t : Settings) : AnnClass → Nat
  | .stop => t.stopGain
  | .service => t.serviceGain
  | .crew => t.crewGain
  | .safety => t.safetyGain

/-- The announcement gain (R91); `cover` is the class of the announcement that covers the berth. -/
def announcementGain (t : Settings) (night : Bool) (cover : Option AnnClass) : Nat :=
  match cover with
  | none => 0
  | some .safety => t.safetyGain
  | some k => if night then min (classGain t k) t.nightCeiling else classGain t k

/-- The three speaker conditions hold: headphones absent, night not in force, speaker permitted (R97). -/
def speakerOpen (headphones night permitted : Bool) : Bool := !headphones && !night && permitted

/-- The effective volume step: the smaller of the knob and the active volume cap (R89). -/
def effectiveStep (knob cap : Fin 16) : Fin 16 := if knob ≤ cap then knob else cap

/-- The gains of a berth for a frame, from the values its neighbours hold for it (R89 to R91, R94, R97).
`cover` is the class of the announcement that covers it. -/
def gainsFor (t : Settings) (curve : Vector Nat 16) (latch inTest night : Bool) (knob cap : Fin 16)
    (headphones permitted : Bool) (cover : Option AnnClass) : Gains :=
  let step := effectiveStep knob cap
  let gp := programmeGain curve[step] night cover.isSome t.nightCeiling t.duckFactor
  let ga := announcementGain t night cover
  let isOpen := speakerOpen headphones night permitted
  { path := outputPath latch inTest
    step := step.val
    gp := gp
    ga := ga
    gsp := if isOpen then gp else 0
    gsa := if cover = some .safety ∨ isOpen then ga else 0 }

/-- The gains of a berth, read at a lane frame start (R87). -/
def berthGains (s : State) (b : Berth) : Gains :=
  gainsFor s.settings s.mixer.curve s.emergency.latch (inSet s.test.frameSet b) s.clock.night
    s.berths[b].knob.accepted s.routes[b].active.cap s.berths[b].headphone.accepted
    s.routes[b].active.speaker ((coveredBy s.voice b).map Coverage.cls)

/-! ## Accumulation, rounding and clamping (section 5.5) -/

/-- The rounded value lies outside the samples: it is clamped (R96). -/
def isClamped (out : Int) : Bool := decide (32767 < out) || decide (out < -32768)

/-- A value clamped to the samples (R96). -/
def clampSample (out : Int) : Sample := toSample (max (-32768) (min 32767 out))

/-- The exact sum of the three products (R95, R98). -/
def accumulate (p a c : Int) (gp ga gc : Nat) : Int := p * gp + a * ga + c * gc

/-- The mono programme input of the speaker (R97). -/
def monoOf (l r : Sample) : Int := (l.toInt + r.toInt) / 2

/-- The three rounded values of the NORMAL path before clamping: left, right and speaker (R95, R96, R98). -/
def normalOut (g : Gains) (wake : Nat) (p : Sample × Sample) (a : Sample) (c : Int) : Int × Int × Int :=
  (roundQ15 (accumulate p.1.toInt a.toInt c g.gp g.ga wake),
   roundQ15 (accumulate p.2.toInt a.toInt c g.gp g.ga wake),
   roundQ15 (accumulate (monoOf p.1 p.2) a.toInt c g.gsp g.gsa wake))

/-- The output of the EMERGENCY path for a held MIC_A sample (R99). -/
def emergencyOut (m : Sample) : Sample := toSample (roundQ15 (m.toInt * 32767))

/-- What one sample period of a berth carries: the three outputs, and whether one was clamped. -/
structure Mixed where
  left    : Sample
  right   : Sample
  speaker : Sample
  clamped : Bool
  deriving DecidableEq, Repr

/-- One sample period of a berth on its path (R94 to R100). `m` is the held MIC_A sample and `w` the test
word. -/
def mixSample (g : Gains) (wake : Nat) (p : Sample × Sample) (a : Sample) (c : Int) (m w : Sample) : Mixed :=
  match g.path with
  | .emergency => { left := emergencyOut m, right := emergencyOut m, speaker := emergencyOut m, clamped := false }
  | .test => { left := w, right := 0, speaker := 0, clamped := false }
  | .normal =>
    let (l, r, sp) := normalOut g wake p a c
    { left := clampSample l, right := clampSample r, speaker := clampSample sp,
      clamped := isClamped l || isClamped r || isClamped sp }

/-- The 48 sample periods of a berth in the frame that begins, with the values its neighbours hold for the
frame (R87). -/
def mixBerth (s : State) (b : Berth) : List Mixed :=
  let g := s.mixer.berths[b].gains
  let a := annSamples s.clips s.voice s.routes[b].active.language b
  let w := wordsFor s.test.words b
  (List.range 48).map fun k =>
    mixSample g s.settings.wakeGain (programmePair s b k) (a.getD k 0) (chimeSample s.wake.entries b k)
      (s.voice.heldA.getD k 0) (w.getD k 0)

/-- The magnitude of a sample, that of -32768 taken as 32767 (R102). -/
def magnitude (x : Sample) : Nat := min x.toInt.natAbs 32767

/-- The running peak after a frame's headphone samples (R102). -/
def peakAfter (peak : Nat) (xs : List Mixed) : Nat :=
  xs.foldl (fun m x => max m (max (magnitude x.left) (magnitude x.right))) peak

/-- The number of significant bits of a running peak (R102). -/
def peakLevelOf (peak : Nat) : Nat :=
  ((List.range 16).filter fun k => decide (2 ^ k ≤ peak)).length

/-! ## The frame start (R87) -/

/-- The account of a berth's saturation mark (step 1 of R87, R101). -/
def accountMark (b : Berth) (s : State) : State :=
  if s.mixer.berths[b].saturated then
    raise (.sat b) 1
      (setMixer (fun m => { m with berths := amend m.berths b fun x => { x with saturated := false } }) s)
  else s

/-- The saturation marks are accounted (R101). -/
def accountMarks (s : State) : State := (List.finRange 40).foldl (fun s b => accountMark b s) s

/-- A peak period ends: levels are set, running peaks and period frames become 0 (R102). -/
def Mixer.endPeriod (m : Mixer) : Mixer :=
  { m with
    periodFrames := 0
    berths := tabulate fun b =>
      { m.berths[b] with peakLevel := peakLevelOf m.berths[b].runningPeak, runningPeak := 0 } }

/-- The peak period at a lane frame start: the first after a reset accounts no frame (R102). -/
def Mixer.advancePeriod (m : Mixer) : Mixer :=
  if m.frameOpen then
    if 1000 ≤ m.periodFrames + 1 then m.endPeriod else { m with periodFrames := m.periodFrames + 1 }
  else { m with frameOpen := true }

/-- Step 1 of R87. -/
def mixerAccount (s : State) : State := setMixer Mixer.advancePeriod (accountMarks s)

/-- Steps 2 and 3 of R87: the gains in force of every berth. -/
def mixerGains (s : State) : State :=
  setMixer (fun m => { m with berths := tabulate fun b => { m.berths[b] with gains := berthGains s b } }) s

/-- A berth's outputs of the frame, with their effect on its mark and running peak (R101 to R103). -/
def MixerBerth.mixed (x : MixerBerth) (xs : List Mixed) : MixerBerth :=
  { x with
    output := { headphones := xs.map fun y => (y.left, y.right), speaker := xs.map Mixed.speaker }
    saturated := x.saturated || xs.any Mixed.clamped
    runningPeak := peakAfter x.runningPeak xs }

/-- The outputs of every berth for the frame that begins. Every input is held for the frame from its start
(R104), so the 48 sample periods are formed here. -/
def mixerOutputs (s : State) : State :=
  setMixer (fun m => { m with berths := tabulate fun b => m.berths[b].mixed (mixBerth s b) }) s

/-- PEAK_PERIOD_END (R102): period frames reaches 1000. DESIGN CHOICE for its place between two lane frame starts: the
running peak then holds all samples of the frame in progress, which are formed at its start, so the samples of that frame
go to the period that ends. The next lane frame start still raises period frames from 0 to 1 for the frame in progress, so
the new period measures the samples of 999 frames only (notes/assumptions/2.md, 14.md). -/
def peakPeriodEvent (s : State) : State := setMixer Mixer.endPeriod s

/-! ## Downstream frames (R154, R155, R191) -/

/-- The downstream slot of a berth on an UP lane (R155). -/
def upSlot (s : State) (b : Berth) : DownSlot :=
  { mode := s.routes[b].mode
    card := if s.routes[b].mode = .card then s.routes[b].card else 0
    cells := s.routes[b].cells
    loopback := inSet s.test.frameSet b
    audio := s.mixer.berths[b].output }

/-- The slot of a berth on a DOWN lane: HOLD, card 0, no cells, loopback clear and every sample 0 (R154). -/
def downSlot : DownSlot :=
  { audio := { headphones := List.replicate 48 (0, 0), speaker := List.replicate 48 0 } }

/-- The downstream frame of a lane for the frame that begins (R154). -/
def laneFrame (s : State) (l : LaneNo) : Option DownFrame :=
  match s.lanes[l].state with
  | .disabled => none
  | .down => some { number := s.timer.frameNumber, laneUp := false, slots := (berthsOf l).map fun _ => downSlot }
  | .up => some { number := s.timer.frameNumber, laneUp := true, slots := (berthsOf l).map (upSlot s) }

/-- Step 4 of R161: the downstream frames are sent. -/
def sendFrames (s : State) : State :=
  { s with lanes := tabulate fun l => { s.lanes[l] with sending := laneFrame s l } }

/-- The bytes of the four cell positions; unused positions carry zeros (R155). -/
def cellBytes (cells : List VideoCell) : List Byte :=
  (List.range 1000).map fun k => ((cells.map VideoCell.data).flatten).getD k 0

/-- The bytes of a downstream slot before its CRC (section 11.7.9, R191). -/
def DownSlot.covered (x : DownSlot) : List Byte :=
  [x.mode.code ||| (if x.loopback then 4 else 0), x.card, u8 x.cells.length] ++ cellBytes x.cells ++
    (x.audio.headphones.map fun p => be16 p.1 ++ be16 p.2).flatten ++ (x.audio.speaker.map be16).flatten

/-- The bytes of a downstream slot, CRC included (section 11.7.9). -/
def DownSlot.bytes (x : DownSlot) : List Byte := x.covered ++ be16 (crc16 x.covered)

/-- The bytes of a downstream lane frame (section 11.7.9). -/
def DownFrame.bytes (f : DownFrame) : List Byte :=
  be16 f.number ++ [flag f.laneUp] ++ (f.slots.map DownSlot.bytes).flatten

/-! ## Requests (R88) -/

/-- The 16 entries of a curve (R88). -/
def curveItems (c : Vector Nat 16) : List Byte := (c.toList.map u16).flatten

/-- CURVE_SET of 16 values (R88). -/
def handleCurveSet (values : List (BitVec 16)) (s : State) : State × Reply :=
  let curve : Vector Nat 16 := tabulate fun i => min (values.getD i.val 0).toNat 32767
  (setMixer (fun m => { m with curve := curve }) s, okReply (curveItems curve))

/-- CURVE_GET (R88). -/
def handleCurveGet (s : State) : State × Reply := (s, okReply (curveItems s.mixer.curve))

end Sys2Proof.Machine
end

