-- ==== Sys2Proof/Machine/Link.lean ====
section
/-! DEFINITION. The control link unit (chapter 11): the receiver, the request buffer, hand-over, the
transmitter, STATUS, SETTING_SET, RESTART and the resets; and the whole of a lane frame start (R147). -/

namespace Sys2Proof.Machine

/-- Change the control link unit. -/
def setLink (f : Link → Link) (s : State) : State := { s with link := f s.link }

/-! ## SETTING_SET and STATUS -/

/-- The effects that act at the moment of a SETTING_SET: settings 1, 2, 12 and 16 (R185). `old` is the
table before it. -/
def settingEffects (i : Fin 17) (old : Settings) (s : State) : State :=
  match i.val with
  | 0 => evaluateNight s
  | 1 => evaluateNight s
  | 11 => depthLimitChanged old.depthLimit s
  | 15 => autoSnapshotChanged old.autoSnapshot s
  | _ => s

/-- SETTING_SET (R185). -/
def handleSettingSet (n : Byte) (value : BitVec 16) (s : State) : State × Reply :=
  match indexOf 17 n with
  | none => (s, refuse .badField)
  | some i =>
    let v := clampSetting i value.toNat
    (settingEffects i s.settings { s with settings := s.settings.put i v }, okReply (n :: u16 v))

/-- Clock state code (section 11.7.4): UNSET, SET, SET and held. -/
def clockCode (c : Clock) : Byte := if c.isSet then (if c.held then 2 else 1) else 0

/-- Voice channel code (section 11.7.4): idle, active, active and frozen (R37). -/
def voiceCode (s : State) : Byte :=
  if s.voice.active.isSome then (if s.emergency.latch then 2 else 1) else 0

/-- The active id, 0 when idle (R187). -/
def activeId (v : Voice) : Byte :=
  match v.active with
  | none => 0
  | some r => r.id

/-- The items of STATUS taken when it is handled: all but the notices-dropped flag (R184, R187,
section 11.7.6). -/
def statusItems (s : State) : List Byte :=
  [flag s.emergency.latch, lineCode s.emergency.accepted, clockCode s.clock, flag s.clock.night,
   voiceCode s, activeId s.voice, u8 s.voice.stack.length, u8 s.voice.waiting.length,
   s.timer.reference.code] ++ s.lanes.toList.map (fun l => l.state.code) ++
  [flag s.test.running, s.test.lastEnd.code]

/-- STATUS (R187). -/
def handleStatus (s : State) : State × Reply := (s, okReply (statusItems s))

/-- RESTART is answered OK at once (step 1 of R188). -/
def handleRestart (s : State) : State × Reply := (s, okReply [])

/-! ## Request kinds (section 11.7.2) -/

/-- The assigned request kinds. -/
inductive Request where
  | status | restart | settingSet | settingGet | curveSet | curveGet
  | routeSet | take | routeGet | berthStatus | programmeSet | programmeStatus | referenceSet
  | announce | annEnd | annWithdraw | annList
  | clipOpen | clipData | clipAbort | clipDelete | clipInfo
  | clockSet | clockGet | stopSet | stopPassed | stopClear | stopList | wakeSet | wakeCancel | wakeList
  | emergencyClear | laneSet | laneReset | laneTestStart | laneTestStop | countersSnapshot | countersRead
  deriving DecidableEq, Repr

/-- The kind code of a request (section 11.7.2). -/
def Request.code : Request → Byte
  | .status => 0x01
  | .restart => 0x02
  | .settingSet => 0x03
  | .settingGet => 0x04
  | .curveSet => 0x05
  | .curveGet => 0x06
  | .routeSet => 0x10
  | .take => 0x11
  | .routeGet => 0x12
  | .berthStatus => 0x13
  | .programmeSet => 0x18
  | .programmeStatus => 0x19
  | .referenceSet => 0x1A
  | .announce => 0x20
  | .annEnd => 0x21
  | .annWithdraw => 0x22
  | .annList => 0x23
  | .clipOpen => 0x28
  | .clipData => 0x29
  | .clipAbort => 0x2A
  | .clipDelete => 0x2B
  | .clipInfo => 0x2C
  | .clockSet => 0x30
  | .clockGet => 0x31
  | .stopSet => 0x32
  | .stopPassed => 0x33
  | .stopClear => 0x34
  | .stopList => 0x35
  | .wakeSet => 0x36
  | .wakeCancel => 0x37
  | .wakeList => 0x38
  | .emergencyClear => 0x3A
  | .laneSet => 0x40
  | .laneReset => 0x41
  | .laneTestStart => 0x42
  | .laneTestStop => 0x43
  | .countersSnapshot => 0x48
  | .countersRead => 0x49

/-- Every assigned request kind in code order. -/
def allRequests : List Request :=
  [.status, .restart, .settingSet, .settingGet, .curveSet, .curveGet, .routeSet, .take, .routeGet,
   .berthStatus, .programmeSet, .programmeStatus, .referenceSet, .announce, .annEnd, .annWithdraw, .annList,
   .clipOpen, .clipData, .clipAbort, .clipDelete, .clipInfo, .clockSet, .clockGet, .stopSet, .stopPassed,
   .stopClear, .stopList, .wakeSet, .wakeCancel, .wakeList, .emergencyClear, .laneSet, .laneReset,
   .laneTestStart, .laneTestStop, .countersSnapshot, .countersRead]

/-- The request kind of a kind byte, none when it is unassigned (R180). -/
def requestOf (kind : Byte) : Option Request := allRequests.find? fun r => r.code == kind

/-- The payload length a kind requires; that of CLIP_DATA is computed from its count field, and a payload
shorter than 8 bytes has none (R180, section 11.7.2). -/
def requiredLength (r : Request) (p : List Byte) : Option Nat :=
  match r with
  | .settingSet => some 3
  | .curveSet => some 32
  | .routeSet => some 12
  | .settingGet | .routeGet | .berthStatus | .programmeStatus | .referenceSet | .annEnd | .annWithdraw
  | .clipDelete | .clipInfo | .stopPassed | .stopClear | .wakeCancel | .laneReset => some 1
  | .programmeSet | .clipAbort | .laneSet => some 2
  | .wakeSet | .countersRead => some 3
  | .clockSet | .stopSet => some 4
  | .laneTestStart => some 5
  | .clipOpen => some 6
  | .announce => some 11
  | .clipData => if p.length < 8 then none else some (8 + 2 * (field16 p 6).toNat)
  | .status | .restart | .curveGet | .take | .annList | .clockGet | .stopList | .wakeList | .emergencyClear
  | .laneTestStop | .countersSnapshot => some 0

/-- A handler that always replies. -/
def replied (x : State × Reply) : State × Answer := (x.1, .reply x.2)

/-- A request is passed to the block that owns it, with the fields of its payload (check 3 of R180,
section 11.7.2). -/
def passOn (r : Request) (p : List Byte) (s : State) : State × Answer :=
  match r with
  | .status => replied (handleStatus s)
  | .restart => replied (handleRestart s)
  | .settingSet => replied (handleSettingSet (field8 p 0) (field16 p 1) s)
  | .settingGet => replied (handleSettingGet (field8 p 0) s)
  | .curveSet => replied (handleCurveSet (field16s p 0 16) s)
  | .curveGet => replied (handleCurveGet s)
  | .routeSet => handleRouteSet (fieldSet p 0) (field8 p 5) (field8 p 6) (field8 p 7) (field8 p 8) (field8 p 9)
      (field8 p 10) (field8 p 11) s
  | .take => handleTake s
  | .routeGet => replied (handleRouteGet (field8 p 0) s)
  | .berthStatus => replied (handleBerthStatus (field8 p 0) s)
  | .programmeSet => replied (handleProgrammeSet (field8 p 0) (field8 p 1) s)
  | .programmeStatus => replied (handleProgrammeStatus (field8 p 0) s)
  | .referenceSet => replied (handleReferenceSet (field8 p 0) s)
  | .announce => replied (handleAnnounce (field8 p 0) (field8 p 1) (field8 p 2) (field8 p 3) (fieldSet p 4)
      (field8 p 9) (field8 p 10) s)
  | .annEnd => replied (handleAnnEnd (field8 p 0) s)
  | .annWithdraw => replied (handleAnnWithdraw (field8 p 0) s)
  | .annList => replied (handleAnnList s)
  | .clipOpen => replied (handleClipOpen (field8 p 0) (field8 p 1) (field32 p 2) s)
  | .clipData => replied (handleClipData (field8 p 0) (field8 p 1) (field32 p 2) (field16 p 6)
      (field16s p 8 (field16 p 6).toNat) s)
  | .clipAbort => replied (handleClipAbort (field8 p 0) (field8 p 1) s)
  | .clipDelete => replied (handleClipDelete (field8 p 0) s)
  | .clipInfo => replied (handleClipInfo (field8 p 0) s)
  | .clockSet => replied (handleClockSet (field8 p 0) (field8 p 1) (field8 p 2) (field8 p 3) s)
  | .clockGet => replied (handleClockGet s)
  | .stopSet => replied (handleStopSet (field8 p 0) (field16 p 1) (field8 p 3) s)
  | .stopPassed => replied (handleStopPassed (field8 p 0) s)
  | .stopClear => replied (handleStopClear (field8 p 0) s)
  | .stopList => replied (handleStopList s)
  | .wakeSet => replied (handleWakeSet (field8 p 0) (field8 p 1) (field8 p 2) s)
  | .wakeCancel => replied (handleWakeCancel (field8 p 0) s)
  | .wakeList => replied (handleWakeList s)
  | .emergencyClear => replied (handleEmergencyClear s)
  | .laneSet => replied (handleLaneSet (field8 p 0) (field8 p 1) s)
  | .laneReset => replied (handleLaneReset (field8 p 0) s)
  | .laneTestStart => replied (handleLaneTestStart (fieldSet p 0) s)
  | .laneTestStop => replied (handleLaneTestStop s)
  | .countersSnapshot => replied (handleCountersSnapshot s)
  | .countersRead => replied (handleCountersRead (field8 p 0) (field8 p 1) (field8 p 2) s)

/-- A request in hand is checked and handled (R180). -/
def handle (f : LinkFrame) (s : State) : State × Answer :=
  match requestOf f.kind with
  | none => (s, .reply (refuse .unknownRequest))
  | some r =>
    if requiredLength r f.payload = some f.payload.length then passOn r f.payload s
    else (s, .reply (refuse .badLength))

/-! ## The request buffer and hand-over -/

/-- The request buffer holds 8 entries in any state (R179). -/
def bufferCapacity : Nat := 8

/-- The entry is that of a RESTART that has been answered OK: it holds the hand-over (R188). -/
def BufferEntry.isRestart (e : BufferEntry) : Bool :=
  e.frame.kind == Request.restart.code && e.state == .answered (okReply [])

/-- The hand-over is held: an entry is IN_HAND, or an answered RESTART awaits its reset (R180, R188). -/
def handOverHeld (buffer : List BufferEntry) : Bool :=
  buffer.any fun e => e.state == .inHand || e.isRestart

/-- The oldest WAITING entry becomes IN_HAND; its frame, and the buffer then (R180). -/
def takeOldest (buffer : List BufferEntry) : Option (LinkFrame × List BufferEntry) :=
  match buffer with
  | [] => none
  | e :: rest =>
    if e.state = .waiting then some (e.frame, { e with state := .inHand } :: rest)
    else
      match takeOldest rest with
      | none => none
      | some (f, rest') => some (f, e :: rest')

/-- The reply of the IN_HAND entry is queued: it becomes ANSWERED (R180). -/
def answerInHand (r : Reply) (s : State) : State :=
  setLink (fun l => { l with buffer := l.buffer.map fun e =>
    if e.state = .inHand then { e with state := .answered r } else e }) s

/-- Requests are handed over one at a time while the hand-over is free; n bounds them (R180). -/
def serveFor (n : Nat) (s : State) : State :=
  match n with
  | 0 => s
  | n + 1 =>
    if handOverHeld s.link.buffer then s
    else
      match takeOldest s.link.buffer with
      | none => s
      | some (f, buffer) =>
        match handle f (setLink (fun l => { l with buffer := buffer }) s) with
        | (s', .reply r) => serveFor n (answerInHand r s')
        | (s', .held) => s'

/-- Every request that can be handed over is. -/
def serve (s : State) : State := serveFor s.link.buffer.length s

/-! ## The transmitter (R182) -/

/-- The reply frame of an ANSWERED entry: kind + 0x80, or 0x80 for a kind outside 0x01-0x4F (R176). -/
def replyKind (kind : Byte) : Byte :=
  if 1 ≤ kind.toNat ∧ kind.toNat ≤ 0x4F then kind + 0x80 else 0x80

/-- The payload of a reply as sent: an OK reply to STATUS ends in the notices-dropped flag, placed when its
sending begins (R184). -/
def sentPayload (kind : Byte) (r : Reply) (dropped : Bool) : List Byte :=
  if kind = Request.status.code ∧ r.result = .ok then r.payload ++ [flag dropped] else r.payload

/-- The notices-dropped flag after the sending of a reply begins (R184). -/
def droppedAfter (kind : Byte) (r : Reply) (dropped : Bool) : Bool :=
  if kind = Request.status.code ∧ r.result = .ok then false else dropped

/-- The oldest ANSWERED entry with its reply (R182). -/
def oldestAnswered (buffer : List BufferEntry) : Option (LinkFrame × Reply) :=
  match buffer with
  | [] => none
  | e :: rest =>
    match e.state with
    | .answered r => some (e.frame, r)
    | _ => oldestAnswered rest

/-- The transmitter, when idle, chooses the next frame: a reply, else a notice (R182, R184). -/
def Link.transmit (l : Link) : Link :=
  match l.sending with
  | some _ => l
  | none =>
    match oldestAnswered l.buffer with
    | some (f, r) =>
      { l with
        sending := some (.reply
          { kind := replyKind f.kind, serial := f.serial, payload := sentPayload f.kind r l.dropped })
        dropped := droppedAfter f.kind r l.dropped }
    | none =>
      match l.notices with
      | [] => l
      | n :: rest => { l with notices := rest, sending := some (.notice n) }

/-- What follows every event: the hand-over of what can be handed over, then the transmitter's choice
(R180, R182). -/
def settle (s : State) : State := setLink Link.transmit (serve s)

/-- The buffer without its oldest ANSWERED entry (R182). -/
def dropAnswered (buffer : List BufferEntry) : List BufferEntry :=
  match buffer with
  | [] => []
  | e :: rest =>
    match e.state with
    | .answered _ => rest
    | _ => e :: dropAnswered rest

/-! ## Receiving (R178, R179) -/

/-- A received frame joins the buffer, or is dropped and counted (R179). -/
def receiveFrame (f : LinkFrame) (s : State) : State :=
  if s.link.buffer.length < bufferCapacity then
    setLink (fun l => { l with buffer := l.buffer ++ [{ frame := f, state := .waiting }] }) s
  else raise .droppedRequests 1 s

/-- A request frame arrives whole with a correct CRC. -/
def requestArrives (f : LinkFrame) (s : State) : State := settle (receiveFrame f s)

/-- What the bytes from a sync byte on come to (R178): a frame still in assembly, one discarded, or a
complete frame with the bytes that follow it. `tail` is what follows the sync byte. -/
inductive Assembly where
  | partialFrame
  | discarded
  | complete (f : LinkFrame) (after : List Byte)
  deriving DecidableEq, Repr

/-- The bytes after a sync byte judged as a frame (R176 to R178). -/
def assemble (tail : List Byte) : Assembly :=
  match tail with
  | high :: low :: rest =>
    let n := high.toNat * 256 + low.toNat
    if 1000 < n then .discarded
    else
      match rest with
      | kind :: serial :: body =>
        if body.length < n + 2 then .partialFrame
        else
          let f : LinkFrame := { kind := kind, serial := serial, payload := body.take n }
          if crc16 f.covered = field16 body n then .complete f (body.drop (n + 2)) else .discarded
      | _ => .partialFrame
  | _ => .partialFrame

/-- BAD_FRAMES is raised by a discarded frame (R178). -/
def badFrame (s : State) : State := raise .badFrames 1 s

/-- Bytes taken in order by a receiver in HUNTING; what a discarded sync byte was followed by is searched
again (R178). n bounds the bytes. -/
def hunt (n : Nat) (bytes : List Byte) (s : State) : State :=
  match n, bytes with
  | 0, _ => setLink (fun l => { l with held := [] }) s
  | _, [] => setLink (fun l => { l with held := [] }) s
  | n + 1, b :: tail =>
    if b = 0xA7 then
      match assemble tail with
      | .partialFrame => setLink (fun l => { l with held := b :: tail }) s
      | .discarded => hunt n tail (badFrame s)
      | .complete f after => hunt n after (requestArrives f s)
    else hunt n tail s

/-- Bytes arrive on the line after those the receiver holds (R178). -/
def receiveBytes (bytes : List Byte) (s : State) : State :=
  let all := s.link.held ++ bytes
  hunt (all.length + 1) all s

/-- A gap of more than 2 ms discards a frame in assembly; the bytes after its sync byte are searched again
(R178). -/
def interByteGapEvent (s : State) : State :=
  match s.link.held with
  | [] => s
  | _ :: tail => hunt (tail.length + 1) tail (badFrame s)

/-! ## Resets -/

/-- The part after the RESET pin (R189). The sample positions of the blocks that it frees are not cleared (R68), and
the waiting commands and the model's own counter stay (notes/assumptions/28.md). -/
def powerOn (s : State) : State :=
  { State.reset with
    clips := { State.reset.clips with mem := s.clips.mem }, orderCount := s.orderCount, pending := s.pending }

/-- The clock at RESTART: kept, with the night state evaluated anew under the default window (R112, R123). -/
def Clock.restart (c : Clock) : Clock :=
  { c with night := c.isSet &&
      inWindow ({} : Settings).nightStart ({} : Settings).nightEnd c.minuteOfDay }

/-- The frame timer at RESTART (R146). -/
def Timer.restart (t : Timer) : Timer := { t with reference := .localOsc, requested := none }

/-- The part after step 3 of RESTART: every block takes the RESTART values of its chapter and a READY
notice is queued (R188). -/
def restartPart (s : State) : State :=
  { s with
    settings := {}
    routes := Vector.replicate 40 {}
    programmes := Vector.replicate 6 {}
    voice := {}
    clips := s.clips.restart
    mixer := {}
    emergency := {}
    clock := s.clock.restart
    wake := {}
    timer := s.timer.restart
    lanes := tabulate fun l => { sending := s.lanes[l].sending }
    berths := Vector.replicate 40 {}
    test := {}
    counters := {}
    link := { notices := [.ready .restart] } }

/-- The frame being sent is the reply of an answered RESTART (R188). -/
def sendingRestart (l : Link) : Bool :=
  match l.sending, l.buffer.find? (fun e => match e.state with | .answered _ => true | _ => false) with
  | some (.reply _), some e => e.isRestart
  | _, _ => false

/-- The last byte of the frame being sent has gone (R182, R188). -/
def frameSent (s : State) : State :=
  match s.link.sending with
  | none => s
  | some (.notice _) => settle (setLink (fun l => { l with sending := none }) s)
  | some (.reply _) =>
    if sendingRestart s.link then settle (restartPart s)
    else settle (setLink (fun l => { l with sending := none, buffer := dropAnswered l.buffer }) s)

/-- RESTART_RESET (R188): the last byte of a RESTART's reply has been sent. -/
def restartResetEvent (s : State) : State :=
  if sendingRestart s.link then settle (restartPart s) else s

/-! ## The lane frame start (R147) -/

/-- A TAKE waits to be applied: an entry of the buffer is IN_HAND (R5). -/
def takeWaits (s : State) : Bool := s.link.buffer.any fun e => e.state == .inHand

/-- The blocks' work at a lane frame start, in an order in which every block reads what its neighbours hold
for the frame that begins (R8, R57, R87, R108, R117, R140, R161, R174). -/
def frameWork (line : Line) (byStrobe : Bool) (s : State) : State :=
  let due := snapshotDue s
  let applyTake := takeWaits s
  let s := snapshotAt due 0 (timerFrame byStrobe s)
  let s := snapshotAt due 1 (programmeFrame s)
  let s := emergencyFrame line s
  let s := snapshotAt due 2 (closeFrame s)
  let s := testFrame s.emergency.latch s
  let s := clockFrame s
  let s := voiceFrame s.emergency.latch s.test.frameSet s
  let s := routeFrame applyTake s
  let s := chimeFrame s
  let s := snapshotAt due 3 (mixerAccount s)
  let s := mixerGains s
  let s := handOutWords s
  let s := sendFrames (mixerOutputs s)
  closeBank due s

/-- The frame has begun: the blocks' work, and then the reply of a TAKE it applied (R5). -/
def frameBegun (line : Line) (byStrobe : Bool) (s : State) : State :=
  if takeWaits s then answerInHand (okReply []) (frameWork line byStrobe s) else frameWork line byStrobe s

/-- A lane frame start (R147); requests that waited behind a TAKE are then handed over (R180). -/
def frameStart (line : Line) (byStrobe : Bool) (s : State) : State := settle (frameBegun line byStrobe s)

end Sys2Proof.Machine
end

