-- ==== Sys2Proof/Machine/Events.lean ====
section
/-! DEFINITION. The meanings of the events on the part's pins and paths, one for each of their rows of
spec/opcode_table.json. An event whose row names a count that is reached (a guard, a limit, a run) takes
that event's own effect; a lane frame start takes every such event that falls due at it
(notes/assumptions/2.md). -/

namespace Sys2Proof.Machine

/-- The outcome of every meaning: the part goes on, with its link unit settled (R180, R182). -/
def goOn (s : State) : Host.Outcome State Fault Refusal := .next (settle s)

/-- POWER_ON_RESET (R189). -/
def execPowerOnReset (s : State) : Host.Outcome State Fault Refusal :=
  .next (powerOn s)

/-- LANE_FRAME_START (R147), from the timer's oscillator. -/
def execLaneFrameStart (line : Line) (s : State) : Host.Outcome State Fault Refusal :=
  .next (frameStart line false s)

/-- PORT_FRAME_STROBE (R147): it issues a lane frame start on the PORT reference, and is only seen on LOCAL. -/
def execPortFrameStrobe (line : Line) (s : State) : Host.Outcome State Fault Refusal :=
  if s.timer.reference = .port then .next (frameStart line true s) else goOn (strobeSeen s)

/-- REFERENCE_LOST (R149). -/
def execReferenceLost (s : State) : Host.Outcome State Fault Refusal :=
  goOn (referenceLostEvent s)

/-- SWITCH_GUARD_EXPIRED (R7). -/
def execSwitchGuardExpired (berth : Berth) (s : State) : Host.Outcome State Fault Refusal :=
  goOn (guardExpiredEvent berth s)

/-- PROGRAMME_STALL (R28). -/
def execProgrammeStall (programme : ProgrammeNo) (s : State) : Host.Outcome State Fault Refusal :=
  goOn (stallEvent programme s)

/-- CELL_ARRIVAL (R24, R29). -/
def execCellArrival (programme : Byte) (entry : Bool) (video : List Byte) (s : State) : Host.Outcome State Fault Refusal :=
  goOn (cellArrives programme entry video s)

/-- AUDIO_BLOCK_ARRIVAL (R26). -/
def execAudioBlockArrival (programme trackField : Byte) (tracks : List (List (Sample × Sample)))
    (complete : Bool) (s : State) : Host.Outcome State Fault Refusal :=
  goOn (audioArrives programme trackField tracks complete s)

/-- MIC_SAMPLE (R51). -/
def execMicSample (mic : Mic) (sample : Sample) (s : State) : Host.Outcome State Fault Refusal :=
  goOn (micArrives mic sample s)

/-- REPEAT_END (R48, R50). -/
def execRepeatEnd (s : State) : Host.Outcome State Fault Refusal :=
  goOn (repeatEndEvent s)

/-- GAP_END (R49). -/
def execGapEnd (s : State) : Host.Outcome State Fault Refusal :=
  goOn (gapEndEvent s)

/-- LIVE_TIMEOUT (R52). -/
def execLiveTimeout (s : State) : Host.Outcome State Fault Refusal :=
  goOn (liveTimeoutEvent s)

/-- PEAK_PERIOD_END (R102). -/
def execPeakPeriodEnd (s : State) : Host.Outcome State Fault Refusal :=
  goOn (peakPeriodEvent s)

/-- ALARM_ACCEPTED (R106, R108). -/
def execAlarmAccepted (s : State) : Host.Outcome State Fault Refusal :=
  goOn (alarmAcceptedEvent s)

/-- SECOND_TICK (R115, R116). -/
def execSecondTick (s : State) : Host.Outcome State Fault Refusal :=
  goOn (secondTickEvent s)

/-- MINUTE_TICK (R115, R122, R135). -/
def execMinuteTick (s : State) : Host.Outcome State Fault Refusal :=
  goOn (minuteTickEvent s)

/-- RING_LIMIT (R139). -/
def execRingLimit (berth : Berth) (s : State) : Host.Outcome State Fault Refusal :=
  goOn (ringLimitEvent berth s)

/-- LANE_TRAINED (R153). -/
def execLaneTrained (lane : LaneNo) (s : State) : Host.Outcome State Fault Refusal :=
  goOn (laneTrainedEvent lane s)

/-- LANE_SYNC_LOSS (R153). -/
def execLaneSyncLoss (lane : LaneNo) (s : State) : Host.Outcome State Fault Refusal :=
  goOn (laneSyncLossEvent lane s)

/-- TRAILER_ARRIVAL (R153). -/
def execTrailerArrival (lane : LaneNo) (echo crc : BitVec 16) (s : State) : Host.Outcome State Fault Refusal :=
  goOn (trailerArrives lane echo crc s)

/-- UPSTREAM_SLOT (R156). -/
def execUpstreamSlot (berth : Berth) (slot : UpSlot) (s : State) : Host.Outcome State Fault Refusal :=
  goOn (slotArrives berth slot s)

/-- BERTH_PRESENT (R157). -/
def execBerthPresent (berth : Berth) (s : State) : Host.Outcome State Fault Refusal :=
  goOn (berthPresentEvent berth s)

/-- BERTH_ABSENT (R157). -/
def execBerthAbsent (berth : Berth) (s : State) : Host.Outcome State Fault Refusal :=
  goOn (berthAbsentEvent berth s)

/-- STATUS_FIELD_ACCEPTED (R158). -/
def execStatusFieldAccepted (berth : Berth) (field : StatusField) (s : State) : Host.Outcome State Fault Refusal :=
  goOn (fieldAcceptedEvent berth field s)

/-- AUTO_SNAPSHOT (R171). -/
def execAutoSnapshot (s : State) : Host.Outcome State Fault Refusal :=
  goOn (autoSnapshotEvent s)

/-- FRAME_RECEIVED (R178): the bytes are taken in order. -/
def execFrameReceived (bytes : List Byte) (s : State) : Host.Outcome State Fault Refusal :=
  goOn (receiveBytes bytes s)

/-- INTER_BYTE_GAP (R178). -/
def execInterByteGap (s : State) : Host.Outcome State Fault Refusal :=
  goOn (interByteGapEvent s)

/-- UNKNOWN_REQUEST (R180): a request frame of the kind arrives. -/
def execUnknownRequest (kind serial : Byte) (payload : List Byte) (s : State) : Host.Outcome State Fault Refusal :=
  .next (requestArrives { kind := kind, serial := serial, payload := payload } s)

/-- TRANSMIT_FRAME_DONE (R182). -/
def execTransmitFrameDone (s : State) : Host.Outcome State Fault Refusal :=
  .next (frameSent s)

/-- RESTART_RESET (R188). -/
def execRestartReset (s : State) : Host.Outcome State Fault Refusal :=
  .next (restartResetEvent s)

/-- SYNC_BYTE (R178). -/
def execSyncByte (s : State) : Host.Outcome State Fault Refusal :=
  goOn (receiveBytes [0xA7] s)

/-- LENGTH_ABOVE_1000 (R178): the two length bytes arrive. -/
def execLengthAbove1000 (high low : Byte) (s : State) : Host.Outcome State Fault Refusal :=
  goOn (receiveBytes [high, low] s)

end Sys2Proof.Machine
end

