-- ==== Sys2Proof/Machine/Requests.lean ====
section
/-! DEFINITION. The meanings of the host's requests, one for each of their rows of spec/opcode_table.json.
A request command is the arrival of its whole frame with a correct CRC: the frame joins the request buffer
and is handed over and handled as R179 and R180 say (notes/assumptions/4.md). -/

namespace Sys2Proof.Machine

/-- The frame of a request with its fields in order (R176, R190). -/
def requestFrame (r : Request) (serial : Byte) (payload : List Byte) : LinkFrame :=
  { kind := r.code, serial := serial, payload := payload }

/-- A request's frame arrives. -/
def request (r : Request) (serial : Byte) (payload : List Byte) (s : State) :
    Host.Outcome State Fault Refusal :=
  .next (requestArrives (requestFrame r serial payload) s)

/-- STATUS (R187). -/
def execStatus (serial : Byte) (s : State) :
    Host.Outcome State Fault Refusal :=
  request .status serial [] s

/-- RESTART (R188). -/
def execRestart (serial : Byte) (s : State) :
    Host.Outcome State Fault Refusal :=
  request .restart serial [] s

/-- SETTING_SET (R185). -/
def execSettingSet (serial : Byte) (number : Byte) (value : BitVec 16) (s : State) :
    Host.Outcome State Fault Refusal :=
  request .settingSet serial (number :: be16 value) s

/-- SETTING_GET (R186). -/
def execSettingGet (serial : Byte) (number : Byte) (s : State) :
    Host.Outcome State Fault Refusal :=
  request .settingGet serial [number] s

/-- CURVE_SET (R88). -/
def execCurveSet (serial : Byte) (values : List (BitVec 16)) (s : State) :
    Host.Outcome State Fault Refusal :=
  request .curveSet serial ((values.map be16).flatten) s

/-- CURVE_GET (R88). -/
def execCurveGet (serial : Byte) (s : State) :
    Host.Outcome State Fault Refusal :=
  request .curveGet serial [] s

/-- ROUTE_SET (R3, R4). -/
def execRouteSet (serial : Byte) (berths : BerthSet) (programme language conditioning card cap speaker
    takeNow : Byte) (s : State) :
    Host.Outcome State Fault Refusal :=
  request .routeSet serial (setField berths ++ [programme, language, conditioning, card, cap, speaker, takeNow]) s

/-- TAKE (R5). -/
def execTake (serial : Byte) (s : State) :
    Host.Outcome State Fault Refusal :=
  request .take serial [] s

/-- ROUTE_GET (R19). -/
def execRouteGet (serial : Byte) (berth : Byte) (s : State) :
    Host.Outcome State Fault Refusal :=
  request .routeGet serial [berth] s

/-- BERTH_STATUS (R20). -/
def execBerthStatus (serial : Byte) (berth : Byte) (s : State) :
    Host.Outcome State Fault Refusal :=
  request .berthStatus serial [berth] s

/-- PROGRAMME_SET (R32). -/
def execProgrammeSet (serial : Byte) (programme tracks : Byte) (s : State) :
    Host.Outcome State Fault Refusal :=
  request .programmeSet serial [programme, tracks] s

/-- PROGRAMME_STATUS (R33). -/
def execProgrammeStatus (serial : Byte) (programme : Byte) (s : State) :
    Host.Outcome State Fault Refusal :=
  request .programmeStatus serial [programme] s

/-- REFERENCE_SET (R148). -/
def execReferenceSet (serial : Byte) (reference : Byte) (s : State) :
    Host.Outcome State Fault Refusal :=
  request .referenceSet serial [reference] s

/-- ANNOUNCE (R41). -/
def execAnnounce (serial : Byte) (id cls origin clip : Byte) (berths : BerthSet) (repeats card : Byte) (s : State) :
    Host.Outcome State Fault Refusal :=
  request .announce serial ([id, cls, origin, clip] ++ setField berths ++ [repeats, card]) s

/-- ANN_END (R53). -/
def execAnnEnd (serial : Byte) (id : Byte) (s : State) :
    Host.Outcome State Fault Refusal :=
  request .annEnd serial [id] s

/-- ANN_WITHDRAW (R54). -/
def execAnnWithdraw (serial : Byte) (id : Byte) (s : State) :
    Host.Outcome State Fault Refusal :=
  request .annWithdraw serial [id] s

/-- ANN_LIST (R56). -/
def execAnnList (serial : Byte) (s : State) :
    Host.Outcome State Fault Refusal :=
  request .annList serial [] s

/-- CLIP_OPEN (R72). -/
def execClipOpen (serial : Byte) (clip variant : Byte) (count : BitVec 32) (s : State) :
    Host.Outcome State Fault Refusal :=
  request .clipOpen serial ([clip, variant] ++ be32 count) s

/-- CLIP_DATA (R74). -/
def execClipData (serial : Byte) (clip variant : Byte) (offset : BitVec 32) (count : BitVec 16)
    (samples : List Sample) (s : State) :
    Host.Outcome State Fault Refusal :=
  request .clipData serial ([clip, variant] ++ be32 offset ++ be16 count ++ (samples.map be16).flatten) s

/-- CLIP_ABORT (R77). -/
def execClipAbort (serial : Byte) (clip variant : Byte) (s : State) :
    Host.Outcome State Fault Refusal :=
  request .clipAbort serial [clip, variant] s

/-- CLIP_DELETE (R78). -/
def execClipDelete (serial : Byte) (clip : Byte) (s : State) :
    Host.Outcome State Fault Refusal :=
  request .clipDelete serial [clip] s

/-- CLIP_INFO (R80). -/
def execClipInfo (serial : Byte) (clip : Byte) (s : State) :
    Host.Outcome State Fault Refusal :=
  request .clipInfo serial [clip] s

/-- CLOCK_SET (R118). -/
def execClockSet (serial : Byte) (day hour minute second : Byte) (s : State) :
    Host.Outcome State Fault Refusal :=
  request .clockSet serial [day, hour, minute, second] s

/-- CLOCK_GET (R120). -/
def execClockGet (serial : Byte) (s : State) :
    Host.Outcome State Fault Refusal :=
  request .clockGet serial [] s

/-- STOP_SET (R126). -/
def execStopSet (serial : Byte) (stop : Byte) (eta : BitVec 16) (nameClip : Byte) (s : State) :
    Host.Outcome State Fault Refusal :=
  request .stopSet serial ([stop] ++ be16 eta ++ [nameClip]) s

/-- STOP_PASSED (R127). -/
def execStopPassed (serial : Byte) (stop : Byte) (s : State) :
    Host.Outcome State Fault Refusal :=
  request .stopPassed serial [stop] s

/-- STOP_CLEAR (R128). -/
def execStopClear (serial : Byte) (stop : Byte) (s : State) :
    Host.Outcome State Fault Refusal :=
  request .stopClear serial [stop] s

/-- STOP_LIST (R129). -/
def execStopList (serial : Byte) (s : State) :
    Host.Outcome State Fault Refusal :=
  request .stopList serial [] s

/-- WAKE_SET (R132). -/
def execWakeSet (serial : Byte) (berth stop lead : Byte) (s : State) :
    Host.Outcome State Fault Refusal :=
  request .wakeSet serial [berth, stop, lead] s

/-- WAKE_CANCEL (R133). -/
def execWakeCancel (serial : Byte) (berth : Byte) (s : State) :
    Host.Outcome State Fault Refusal :=
  request .wakeCancel serial [berth] s

/-- WAKE_LIST (R134). -/
def execWakeList (serial : Byte) (s : State) :
    Host.Outcome State Fault Refusal :=
  request .wakeList serial [] s

/-- EMERGENCY_CLEAR (R109). -/
def execEmergencyClear (serial : Byte) (s : State) :
    Host.Outcome State Fault Refusal :=
  request .emergencyClear serial [] s

/-- LANE_SET (R151). -/
def execLaneSet (serial : Byte) (lane enable : Byte) (s : State) :
    Host.Outcome State Fault Refusal :=
  request .laneSet serial [lane, enable] s

/-- LANE_RESET (R152). -/
def execLaneReset (serial : Byte) (lane : Byte) (s : State) :
    Host.Outcome State Fault Refusal :=
  request .laneReset serial [lane] s

/-- LANE_TEST_START (R163). -/
def execLaneTestStart (serial : Byte) (berths : BerthSet) (s : State) :
    Host.Outcome State Fault Refusal :=
  request .laneTestStart serial (setField berths) s

/-- LANE_TEST_STOP (R167). -/
def execLaneTestStop (serial : Byte) (s : State) :
    Host.Outcome State Fault Refusal :=
  request .laneTestStop serial [] s

/-- COUNTERS_SNAPSHOT (R172). -/
def execCountersSnapshot (serial : Byte) (s : State) :
    Host.Outcome State Fault Refusal :=
  request .countersSnapshot serial [] s

/-- COUNTERS_READ (R173). -/
def execCountersRead (serial : Byte) (group first count : Byte) (s : State) :
    Host.Outcome State Fault Refusal :=
  request .countersRead serial [group, first, count] s

end Sys2Proof.Machine
end

