-- ==== Sys2Proof/Machine/Dispatch.lean ====
section
/-! DEFINITION. One arm per command, each a direct call of its meaning. -/

namespace Sys2Proof.Machine

def exec (i : Instr) (s : State) : Host.Outcome State Fault Refusal :=
  match i with
  | .powerOnReset => Sys2Proof.Machine.execPowerOnReset s
  | .laneFrameStart line => Sys2Proof.Machine.execLaneFrameStart line s
  | .portFrameStrobe line => Sys2Proof.Machine.execPortFrameStrobe line s
  | .referenceLost => Sys2Proof.Machine.execReferenceLost s
  | .switchGuardExpired berth => Sys2Proof.Machine.execSwitchGuardExpired berth s
  | .programmeStall programme => Sys2Proof.Machine.execProgrammeStall programme s
  | .cellArrival programme entry video => Sys2Proof.Machine.execCellArrival programme entry video s
  | .audioBlockArrival programme trackField tracks complete => Sys2Proof.Machine.execAudioBlockArrival programme trackField tracks complete s
  | .micSample mic sample => Sys2Proof.Machine.execMicSample mic sample s
  | .repeatEnd => Sys2Proof.Machine.execRepeatEnd s
  | .gapEnd => Sys2Proof.Machine.execGapEnd s
  | .liveTimeout => Sys2Proof.Machine.execLiveTimeout s
  | .peakPeriodEnd => Sys2Proof.Machine.execPeakPeriodEnd s
  | .alarmAccepted => Sys2Proof.Machine.execAlarmAccepted s
  | .secondTick => Sys2Proof.Machine.execSecondTick s
  | .minuteTick => Sys2Proof.Machine.execMinuteTick s
  | .ringLimit berth => Sys2Proof.Machine.execRingLimit berth s
  | .laneTrained lane => Sys2Proof.Machine.execLaneTrained lane s
  | .laneSyncLoss lane => Sys2Proof.Machine.execLaneSyncLoss lane s
  | .trailerArrival lane echo crc => Sys2Proof.Machine.execTrailerArrival lane echo crc s
  | .upstreamSlot berth slot => Sys2Proof.Machine.execUpstreamSlot berth slot s
  | .berthPresent berth => Sys2Proof.Machine.execBerthPresent berth s
  | .berthAbsent berth => Sys2Proof.Machine.execBerthAbsent berth s
  | .statusFieldAccepted berth field => Sys2Proof.Machine.execStatusFieldAccepted berth field s
  | .autoSnapshot => Sys2Proof.Machine.execAutoSnapshot s
  | .frameReceived bytes => Sys2Proof.Machine.execFrameReceived bytes s
  | .interByteGap => Sys2Proof.Machine.execInterByteGap s
  | .unknownRequest kind serial payload => Sys2Proof.Machine.execUnknownRequest kind serial payload s
  | .transmitFrameDone => Sys2Proof.Machine.execTransmitFrameDone s
  | .restartReset => Sys2Proof.Machine.execRestartReset s
  | .status serial => Sys2Proof.Machine.execStatus serial s
  | .restart serial => Sys2Proof.Machine.execRestart serial s
  | .settingSet serial number value => Sys2Proof.Machine.execSettingSet serial number value s
  | .settingGet serial number => Sys2Proof.Machine.execSettingGet serial number s
  | .curveSet serial values => Sys2Proof.Machine.execCurveSet serial values s
  | .curveGet serial => Sys2Proof.Machine.execCurveGet serial s
  | .routeSet serial berths programme language conditioning card cap speaker takeNow => Sys2Proof.Machine.execRouteSet serial berths programme language conditioning card cap speaker takeNow s
  | .take serial => Sys2Proof.Machine.execTake serial s
  | .routeGet serial berth => Sys2Proof.Machine.execRouteGet serial berth s
  | .berthStatus serial berth => Sys2Proof.Machine.execBerthStatus serial berth s
  | .programmeSet serial programme tracks => Sys2Proof.Machine.execProgrammeSet serial programme tracks s
  | .programmeStatus serial programme => Sys2Proof.Machine.execProgrammeStatus serial programme s
  | .referenceSet serial reference => Sys2Proof.Machine.execReferenceSet serial reference s
  | .announce serial id cls origin clip berths repeats card => Sys2Proof.Machine.execAnnounce serial id cls origin clip berths repeats card s
  | .annEnd serial id => Sys2Proof.Machine.execAnnEnd serial id s
  | .annWithdraw serial id => Sys2Proof.Machine.execAnnWithdraw serial id s
  | .annList serial => Sys2Proof.Machine.execAnnList serial s
  | .clipOpen serial clip variant count => Sys2Proof.Machine.execClipOpen serial clip variant count s
  | .clipData serial clip variant offset count samples => Sys2Proof.Machine.execClipData serial clip variant offset count samples s
  | .clipAbort serial clip variant => Sys2Proof.Machine.execClipAbort serial clip variant s
  | .clipDelete serial clip => Sys2Proof.Machine.execClipDelete serial clip s
  | .clipInfo serial clip => Sys2Proof.Machine.execClipInfo serial clip s
  | .clockSet serial day hour minute second => Sys2Proof.Machine.execClockSet serial day hour minute second s
  | .clockGet serial => Sys2Proof.Machine.execClockGet serial s
  | .stopSet serial stop eta nameClip => Sys2Proof.Machine.execStopSet serial stop eta nameClip s
  | .stopPassed serial stop => Sys2Proof.Machine.execStopPassed serial stop s
  | .stopClear serial stop => Sys2Proof.Machine.execStopClear serial stop s
  | .stopList serial => Sys2Proof.Machine.execStopList serial s
  | .wakeSet serial berth stop lead => Sys2Proof.Machine.execWakeSet serial berth stop lead s
  | .wakeCancel serial berth => Sys2Proof.Machine.execWakeCancel serial berth s
  | .wakeList serial => Sys2Proof.Machine.execWakeList serial s
  | .emergencyClear serial => Sys2Proof.Machine.execEmergencyClear serial s
  | .laneSet serial lane enable => Sys2Proof.Machine.execLaneSet serial lane enable s
  | .laneReset serial lane => Sys2Proof.Machine.execLaneReset serial lane s
  | .laneTestStart serial berths => Sys2Proof.Machine.execLaneTestStart serial berths s
  | .laneTestStop serial => Sys2Proof.Machine.execLaneTestStop serial s
  | .countersSnapshot serial => Sys2Proof.Machine.execCountersSnapshot serial s
  | .countersRead serial group first count => Sys2Proof.Machine.execCountersRead serial group first count s
  | .syncByte => Sys2Proof.Machine.execSyncByte s
  | .lengthAbove1000 high low => Sys2Proof.Machine.execLengthAbove1000 high low s

end Sys2Proof.Machine
end

