-- ==== Sys2Proof/Safety.lean ====
section
/-! DEFINITION. What a sound state of the CM-40 is, block by block, and the conditions of the control link
under which a command acts at once: the terms in which claims about the part are stated. -/

namespace Sys2Proof.Machine

/-! ## The frames of the requests -/

/-- The link frame that the command of a request's row brings: its kind, its serial and its payload, field by field
(section 11.7.2). The other commands bring no request; FRAME_RECEIVED brings line bytes. -/
def carriedFrame (c : Instr) : Option LinkFrame :=
  let frame := fun (kind serial : Byte) (payload : List Byte) =>
    some ({ kind := kind, serial := serial, payload := payload } : LinkFrame)
  match c with
  | .unknownRequest kind serial payload => frame kind serial payload
  | .status n => frame 0x01 n []
  | .restart n => frame 0x02 n []
  | .settingSet n number value => frame 0x03 n [number, highByte value, lowByte value]
  | .settingGet n number => frame 0x04 n [number]
  | .curveSet n values => frame 0x05 n (values.map be16).flatten
  | .curveGet n => frame 0x06 n []
  | .routeSet n set programme language conditioning card cap speaker takeNow =>
    frame 0x10 n (setField set ++ [programme, language, conditioning, card, cap, speaker, takeNow])
  | .take n => frame 0x11 n []
  | .routeGet n berth => frame 0x12 n [berth]
  | .berthStatus n berth => frame 0x13 n [berth]
  | .programmeSet n programme tracks => frame 0x18 n [programme, tracks]
  | .programmeStatus n programme => frame 0x19 n [programme]
  | .referenceSet n reference => frame 0x1A n [reference]
  | .announce n id cls origin clip set repeats card =>
    frame 0x20 n ([id, cls, origin, clip] ++ setField set ++ [repeats, card])
  | .annEnd n id => frame 0x21 n [id]
  | .annWithdraw n id => frame 0x22 n [id]
  | .annList n => frame 0x23 n []
  | .clipOpen n clip variant count => frame 0x28 n ([clip, variant] ++ be32 count)
  | .clipData n clip variant offset count samples =>
    frame 0x29 n ([clip, variant] ++ be32 offset ++ be16 count ++ (samples.map be16).flatten)
  | .clipAbort n clip variant => frame 0x2A n [clip, variant]
  | .clipDelete n clip => frame 0x2B n [clip]
  | .clipInfo n clip => frame 0x2C n [clip]
  | .clockSet n day hour minute second => frame 0x30 n [day, hour, minute, second]
  | .clockGet n => frame 0x31 n []
  | .stopSet n stop eta nameClip => frame 0x32 n [stop, highByte eta, lowByte eta, nameClip]
  | .stopPassed n stop => frame 0x33 n [stop]
  | .stopClear n stop => frame 0x34 n [stop]
  | .stopList n => frame 0x35 n []
  | .wakeSet n berth stop lead => frame 0x36 n [berth, stop, lead]
  | .wakeCancel n berth => frame 0x37 n [berth]
  | .wakeList n => frame 0x38 n []
  | .emergencyClear n => frame 0x3A n []
  | .laneSet n lane enable => frame 0x40 n [lane, enable]
  | .laneReset n lane => frame 0x41 n [lane]
  | .laneTestStart n set => frame 0x42 n (setField set)
  | .laneTestStop n => frame 0x43 n []
  | .countersSnapshot n => frame 0x48 n []
  | .countersRead n group first count => frame 0x49 n [group, first, count]
  | .powerOnReset | .laneFrameStart _ | .portFrameStrobe _ | .referenceLost | .switchGuardExpired _
  | .programmeStall _ | .cellArrival _ _ _ | .audioBlockArrival _ _ _ _ | .micSample _ _ | .repeatEnd | .gapEnd
  | .liveTimeout | .peakPeriodEnd | .alarmAccepted | .secondTick | .minuteTick | .ringLimit _ | .laneTrained _
  | .laneSyncLoss _ | .trailerArrival _ _ _ | .upstreamSlot _ _ | .berthPresent _ | .berthAbsent _
  | .statusFieldAccepted _ _ | .autoSnapshot | .frameReceived _ | .interByteGap | .transmitFrameDone | .restartReset
  | .syncByte | .lengthAbove1000 _ _ => none

/-- The request frame f reaches the receiver of s by command c: by the row of its request, or as its line bytes while
the receiver is in HUNTING (R178). -/
def Brings (s : State) (c : Instr) (f : LinkFrame) : Prop :=
  carriedFrame c = some f ∨ (c = .frameReceived f.bytes ∧ s.link.held = [] ∧ f.payload.length ≤ 1000)

/-! ## The control link -/

/-- No request can be handed over now: the hand-over is held, or no entry is WAITING (R180). -/
def LinkQuiet (s : State) : Prop :=
  handOverHeld s.link.buffer = true ∨ ∀ e ∈ s.link.buffer, e.state ≠ .waiting

/-- A request that arrives is handed over at once: the buffer has room, and every entry in it is ANSWERED and
none of them holds the hand-over (R179, R180, R188). -/
def LinkReady (s : State) : Prop :=
  s.link.buffer.length < bufferCapacity ∧
    ∀ e ∈ s.link.buffer, e.state ≠ .waiting ∧ e.state ≠ .inHand ∧ e.isRestart = false

/-- The part once the transmitter has chosen, when idle, what to send next (R182). -/
def State.sent (s : State) : State := setLink Link.transmit s

/-- The part once request frame `f` has been answered with `r`: its entry stands ANSWERED at the back of the
buffer, and the transmitter has chosen (R180, R182). -/
def State.answered (s : State) (f : LinkFrame) (r : Reply) : State :=
  (setLink (fun l => { l with buffer := l.buffer ++ [{ frame := f, state := .answered r }] }) s).sent

/-- The part once request frame `f` has been taken in hand and is held there (R5, R180). -/
def State.inHand (s : State) (f : LinkFrame) : State :=
  (setLink (fun l => { l with buffer := l.buffer ++ [{ frame := f, state := .inHand }] }) s).sent

/-- A notice has been queued on the way from s to t: the queue holds one more of it, or it is full and the
notices-dropped flag is set (R183). -/
def Reports (s t : State) (n : Notice) : Prop :=
  s.link.notices.count n < t.link.notices.count n ∨ (32 ≤ t.link.notices.length ∧ t.link.dropped = true)

/-- No notice n has been queued on the way from s to t. -/
def KeepsCount (s t : State) (n : Notice) : Prop := t.link.notices.count n = s.link.notices.count n

/-- A live counter gains n at the lane frame start that leads from s to t (R168). When the auto period falls due
there, the gain stands in the snapshot or, with the snapshot taken first, in the live bank (R171, R174,
notes/assumptions/1.md). -/
def CountsAtFrame (s t : State) (c : Counter) (n : Nat) : Prop :=
  let old := s.counters.live[counterIndex c]
  let new := if n = 0 then old else min (old + n) 65535
  if snapshotDue s then
    (t.counters.snapshot[counterIndex c] = new ∧ t.counters.live[counterIndex c] = 0) ∨
      (t.counters.snapshot[counterIndex c] = old ∧ t.counters.live[counterIndex c] = min n 65535)
  else t.counters.live[counterIndex c] = new

/-- The link unit between two commands: capacities of R179 and R183, one entry in hand at most (R180), the
hand-over and the transmitter with nothing left to do (R180, R182), and a receiver that holds nothing or the
bytes from a sync byte on (R178). -/
structure Link.Sound (l : Link) : Prop where
  buffer   : l.buffer.length ≤ 8
  notices  : l.notices.length ≤ 32
  inHand   : (l.buffer.filter fun e => e.state == .inHand).length ≤ 1
  served   : handOverHeld l.buffer = true ∨ ∀ e ∈ l.buffer, e.state ≠ .waiting
  chosen   : l.sending = none → l.notices = [] ∧ oldestAnswered l.buffer = none
  receiver : l.held = [] ∨ (l.held.head? = some 0xA7 ∧ l.held.length < 1007)

/-! ## The voice channel -/

/-- The order of the voice stack and of the pending list (R38, R39). The stack stands top first. -/
structure Voice.Ordered (v : Voice) : Prop where
  depth   : v.stack.length ≤ 3
  stack   : v.stack.Pairwise fun above below => below.cls.rank < above.cls.rank
  active  : ∀ a, v.active = some a → ∀ r ∈ v.stack, r.cls.rank < a.cls.rank
  idle    : v.active = none → v.stack = []
  pending : v.waiting.length ≤ 16
  order   : v.waiting.Pairwise fun ahead behind => behind.cls.rank ≤ ahead.cls.rank

/-- An id is held by at most one record (R40). -/
def Voice.IdsUnique (v : Voice) : Prop := (v.records.map Announcement.id).Nodup

/-- Variant 0 of every clip that a record holds is READY (R66). -/
def HeldClipsReady (s : State) : Prop :=
  ∀ r ∈ s.voice.records, ∀ c, r.origin = .clip c → (s.clips.variant c 0).state = .ready

/-! ## The clip store -/

/-- The fields of a variant agree with its state (R67, R69). -/
def Variant.Sound (x : Variant) : Prop :=
  match x.state with
  | .empty => x.declared = 0 ∧ x.chain = [] ∧ x.written = 0
  | .loading => 1 ≤ x.declared ∧ x.declared ≤ 1048576 ∧ x.chain.length = blocksFor x.declared ∧ x.written < x.declared
  | .ready => 1 ≤ x.declared ∧ x.declared ≤ 1048576 ∧ x.chain.length = blocksFor x.declared ∧ x.written = x.declared

/-- Each of the 4096 blocks is in the free set, which is ordered, or in exactly one chain (R67). -/
structure Clips.PoolSound (c : Clips) : Prop where
  variant  : ∀ k v, (c.variant k v).Sound
  ordered  : c.free.Pairwise (· < ·)
  range    : ∀ b ∈ c.free, b < 4096
  chains   : ∀ k v, (c.variant k v).chain.Nodup ∧ ∀ b ∈ (c.variant k v).chain, b < 4096 ∧ b ∉ c.free
  disjoint : ∀ k v k' v' b, b ∈ (c.variant k v).chain → b ∈ (c.variant k' v').chain → k = k' ∧ v = v'
  whole    : ∀ b < 4096, b ∈ c.free ∨ ∃ k v, b ∈ (c.variant k v).chain

/-! ## Settings, counters and the programme inputs -/

/-- Every setting lies in its range (R185, section 11.5). -/
def Settings.InRange (t : Settings) : Prop :=
  ∀ i : Fin 17, settingRanges[i].1 ≤ t.get i ∧ t.get i ≤ settingRanges[i].2

/-- Every counter, live or snapshot, lies in 0 to 65535 (R168), and auto frames in 0 to 999 (R169). -/
def Counters.Bounded (c : Counters) : Prop :=
  (∀ i : Fin 144, c.live[i] ≤ 65535 ∧ c.snapshot[i] ≤ 65535) ∧ c.autoFrames ≤ 999

/-- The ranges of a programme's record, and the interval counter running in RUNNING alone (R23, R28). -/
def Programme.Sound (r : Programme) : Prop :=
  1 ≤ r.trackCount ∧ r.trackCount ≤ 4 ∧ 1 ≤ r.countInForce ∧ r.countInForce ≤ 4 ∧
    r.receivingCells.length ≤ 4 ∧ r.forwardingCells.length ≤ 4 ∧
    (r.state = .running ↔ r.interval.isSome) ∧ ∀ n, r.interval = some n → n ≤ 4999

/-- Before the first lane frame start after a reset nothing has been taken in for it: the first frame forwards no
cell and plays no programme audio (R23, R189). -/
def FirstFrameEmpty (s : State) : Prop :=
  s.mixer.frameOpen = false →
    (∀ p : ProgrammeNo, s.programmes[p].receivingCells = [] ∧ s.programmes[p].receivingAudio = none) ∧
    s.voice.collectingA = [] ∧ s.voice.collectingB = []

/-! ## The emergency line, the clock and the wake list -/

/-- The run count lies in 0 to 100; while the accepted line is ASSERTED the latch is set and no clear waits;
a clear waits only with the latch set (R105, R108, R109). -/
def Emergency.Sound (e : Emergency) : Prop :=
  e.runCount ≤ 100 ∧ (e.accepted = .asserted → e.latch = true ∧ e.clearPending = false) ∧
    (e.clearPending = true → e.latch = true)

/-- The ranges of the clock's fields; a held clock stands at day 7 23:59:59, and an UNSET clock is neither held
nor at night (R112, R116, R121). -/
def Clock.Sound (c : Clock) : Prop :=
  c.day ≤ 7 ∧ c.hour ≤ 23 ∧ c.minute ≤ 59 ∧ c.second ≤ 59 ∧ c.frameCount ≤ 999 ∧
    (c.held = true → c.atLimit = true) ∧ (c.isSet = false → c.held = false ∧ c.night = false)

/-- An entry agrees with the stop it names (R125, R127, R130, R131). -/
def WakeEntry.Sound (stops : Vector Stop 24) (e : WakeEntry) : Prop :=
  5 ≤ e.lead ∧ e.lead ≤ 60 ∧ e.due = dueMinute stops[e.stop].eta e.lead ∧ stops[e.stop].state ≠ .unused ∧
    (e.state = .armed ∨ e.state = .ringing → stops[e.stop].state = .ahead) ∧
    (e.deferred = true → e.state = .ringing) ∧ e.cycle ≤ 999

/-- The stop table and the wake list: one entry per berth at most, in order of due minute and then of berth, each
in accord with its stop (R125, R130, R131). -/
structure Wake.Sound (w : Wake) : Prop where
  eta     : ∀ t : StopNo, w.stops[t].eta ≤ 11519
  berths  : (w.entries.map WakeEntry.berth).Nodup
  order   : w.entries.Pairwise fun x y => x.due < y.due ∨ (x.due = y.due ∧ x.berth < y.berth)
  entries : ∀ e ∈ w.entries, e.Sound w.stops

/-! ## The lane controller -/

/-- Runs in range, and the accepted values of an ABSENT berth at their defaults (R157, R158). -/
def BerthLink.Sound (x : BerthLink) : Prop :=
  x.validRun ≤ 3 ∧ x.invalidRun ≤ 8 ∧
    x.headphone.run ≤ 3 ∧ x.call.run ≤ 3 ∧ x.screen.run ≤ 3 ∧ x.knob.run ≤ 3 ∧
    (x.present = false → x.headphone.accepted = false ∧ x.call.accepted = false ∧ x.screen.accepted = false ∧
      x.knob.accepted = 0)

/-- Every berth is sound, and a berth whose lane is not UP is ABSENT (R156, R157). -/
def BerthsSound (s : State) : Prop :=
  ∀ b : Berth, s.berths[b].Sound ∧ (s.berths[b].present = true → s.lanes[laneOf b].state = .up)

/-- A lane test that is not RUNNING has an empty tested set; one that runs has not (R162, R163, R167). -/
def LaneTest.Sound (t : LaneTest) : Prop :=
  (t.running = true ↔ t.tested ≠ 0) ∧ t.frame ≤ 65535

/-- Every clip memory address is in canonical form (R67). -/
def MemorySound (s : State) : Prop := Memory.wf s.clips.mem = true

end Sys2Proof.Machine
end

