-- ==== Sys2Proof/WellFormed.lean ====
section
/-! DEFINITION. What a command's operands must be for the command to be one the part's pins and paths can
carry. Every field of a request is free at its width; the checks here are of lengths, of the kind of an
UNKNOWN_REQUEST and of the length that LENGTH_ABOVE_1000 names. -/

namespace Sys2Proof

/-- The assigned request kinds (section 11.7.2). -/
def assignedKinds : List Byte :=
  [0x01, 0x02, 0x03, 0x04, 0x05, 0x06, 0x10, 0x11, 0x12, 0x13, 0x18, 0x19, 0x1A,
   0x20, 0x21, 0x22, 0x23, 0x28, 0x29, 0x2A, 0x2B, 0x2C, 0x30, 0x31, 0x32, 0x33,
   0x34, 0x35, 0x36, 0x37, 0x38, 0x3A, 0x40, 0x41, 0x42, 0x43, 0x48, 0x49]

/-- A slot carries 48 loopback words (R156). -/
def UpSlot.wellFormed (slot : UpSlot) : Bool := slot.loopback.length == 48

/-- A run of line bytes is not empty and no longer than the longest frame (R176). -/
def lineRunWellFormed (bytes : List Byte) : Bool :=
  decide (1 ≤ bytes.length) && decide (bytes.length ≤ 1007)

/-- The two bytes, high byte first, as a number (00_scope.md 6.9). -/
def lengthField (high low : Byte) : Nat := high.toNat * 256 + low.toNat

/-- The command is one that the part's pins and paths can carry. -/
def Instr.wellFormed : Instr → Bool
  | .cellArrival _ _ video => video.length == 250
  | .upstreamSlot _ slot => slot.wellFormed
  | .frameReceived bytes => lineRunWellFormed bytes
  | .unknownRequest kind _ payload => !assignedKinds.contains kind && decide (payload.length ≤ 1000)
  | .curveSet _ values => values.length == 16
  | .clipData _ _ _ _ _ samples => decide (8 + 2 * samples.length ≤ 1000)
  | .lengthAbove1000 high low => decide (1000 < lengthField high low)
  | .powerOnReset | .laneFrameStart _ | .portFrameStrobe _ | .referenceLost | .switchGuardExpired _
  | .programmeStall _ | .audioBlockArrival _ _ _ _ | .micSample _ _ | .repeatEnd | .gapEnd | .liveTimeout
  | .peakPeriodEnd | .alarmAccepted | .secondTick | .minuteTick | .ringLimit _ | .laneTrained _
  | .laneSyncLoss _ | .trailerArrival _ _ _ | .berthPresent _ | .berthAbsent _ | .statusFieldAccepted _ _
  | .autoSnapshot | .interByteGap | .transmitFrameDone | .restartReset | .status _ | .restart _
  | .settingSet _ _ _ | .settingGet _ _ | .curveGet _ | .routeSet _ _ _ _ _ _ _ _ _ | .take _
  | .routeGet _ _ | .berthStatus _ _ | .programmeSet _ _ _ | .programmeStatus _ _ | .referenceSet _ _
  | .announce _ _ _ _ _ _ _ _ | .annEnd _ _ | .annWithdraw _ _ | .annList _ | .clipOpen _ _ _ _
  | .clipAbort _ _ _ | .clipDelete _ _ | .clipInfo _ _ | .clockSet _ _ _ _ _ | .clockGet _
  | .stopSet _ _ _ _ | .stopPassed _ _ | .stopClear _ _ | .stopList _ | .wakeSet _ _ _ _
  | .wakeCancel _ _ | .wakeList _ | .emergencyClear _ | .laneSet _ _ _ | .laneReset _ _
  | .laneTestStart _ _ | .laneTestStop _ | .countersSnapshot _ | .countersRead _ _ _ _ | .syncByte => true

end Sys2Proof
end

