-- ==== Sys2Proof/Certificates/Slice0/Obligations.lean ====
section
/-! DEFINITION. The statements for the provers. A request's statement speaks of a part whose link unit hands the
request over at once (`LinkReady`), and gives the whole next state: `State.answered` puts the answered entry at the
back of the buffer and lets the transmitter choose. An event's statement speaks of a part with nothing to hand over
(`LinkQuiet`), as every step leaves it (`Obligations.LinkStaysSound`). Where a rule of spec/ is followed, the
docstring names it. A lane frame start is `settle (frameBegun line strobe s)`: `frameBegun` is the part once its blocks
have done their work and a waiting TAKE is answered, `settle` the hand-over of requests that waited behind it. The
statements about a lane frame start speak of `frameBegun` for every state and for either source of the frame start, the
oscillator (strobe false) or PORT_FRAME_STROBE (strobe true, `Obligations.FrameTimerRuns`). -/

section

open Sys2Proof Sys2Proof.Machine

/-! ## The step, the resets and the control link -/

/-- The step runs the command at the front of the queue on the state with the queue's rest. On an empty queue the
part idles, which is the model's choice (notes/assumptions/5.md). -/
def Obligations.StepRunsFrontCommand : Prop :=
  ∀ s : State,
    (∀ c rest, s.pending = c :: rest → step s = exec c { s with pending := rest }) ∧
    (s.pending = [] → step s = .next s)

/-- Every command completes on every state: none faults and none is refused. That none changes the queue of commands
that wait, POWER_ON_RESET and RESTART_RESET included, is the model's own choice (notes/assumptions/5.md, 28.md): the
spec has no such queue. -/
def Obligations.EveryCommandCompletes : Prop :=
  ∀ (c : Instr) (s : State), ∃ t, exec c s = .next t ∧ t.pending = s.pending

/-- POWER_ON_RESET (R189) and the power-on values of the chapters: R2, R23, R37, R70, R86, R105, R112, R125, R130,
R146, R150, R157, R162, R169, R178, R179, R183, R185. The sample positions of the freed blocks are not cleared (R68).
The commands that wait and `orderCount` are the model's own
and stay (notes/assumptions/1.md); the READY notice is being sent (notes/assumptions/6.md). -/
def Obligations.PowerOnResetValues : Prop :=
  (∀ s : State,
    exec .powerOnReset s = .next { State.reset with
      clips := { State.reset.clips with mem := s.clips.mem }, orderCount := s.orderCount, pending := s.pending }) ∧
  ((List.finRange 17).map State.reset.settings.get =
    [1320, 390, 4096, 2048, 16384, 16384, 23170, 32767, 16384, 1000, 120, 3, 4, 2000, 120, 1, 20]) ∧
  (∀ b : Berth, State.reset.routes[b].staged.fields = [0, 0, 0, 0, 15, 1] ∧
    State.reset.routes[b].active.fields = [0, 0, 0, 0, 15, 1] ∧ State.reset.routes[b].guard = 0 ∧
    State.reset.routes[b].video = .waitingEntry ∧ State.reset.routes[b].mode = .card ∧
    State.reset.routes[b].card = 0) ∧
  (∀ p : ProgrammeNo, State.reset.programmes[p].state = .absent ∧ State.reset.programmes[p].trackCount = 1 ∧
    State.reset.programmes[p].interval = none ∧ State.reset.programmes[p].lastInterval = none ∧
    State.reset.programmes[p].minInterval = none ∧ State.reset.programmes[p].maxInterval = none ∧
    State.reset.programmes[p].receivingCells = [] ∧ State.reset.programmes[p].forwardingCells = [] ∧
    State.reset.programmes[p].receivingAudio = none ∧ State.reset.programmes[p].forwardingAudio = none) ∧
  (State.reset.voice.records = [] ∧ State.reset.voice.readers = [] ∧ State.reset.voice.stackLimitArmed = true ∧
    State.reset.voice.heldA = List.replicate 48 0 ∧ State.reset.voice.heldB = List.replicate 48 0 ∧
    State.reset.voice.coverage = none) ∧
  (∀ c v, State.reset.clips.variant c v = { state := .empty, declared := 0, chain := [], written := 0 }) ∧
  (State.reset.clips.free = List.range 4096) ∧
  (State.reset.mixer.curve.toList =
    [0, 256, 362, 512, 724, 1024, 1448, 2048, 2896, 4096, 5793, 8192, 11585, 16384, 23170, 32767]) ∧
  (∀ b : Berth, State.reset.mixer.berths[b].gains =
      { path := .normal, step := 0, gp := 0, ga := 0, gsp := 0, gsa := 0 } ∧
    State.reset.mixer.berths[b].saturated = false ∧ State.reset.mixer.berths[b].runningPeak = 0 ∧
    State.reset.mixer.berths[b].peakLevel = 0) ∧
  (State.reset.mixer.periodFrames = 0) ∧
  (State.reset.emergency =
    { candidate := .released, runCount := 0, accepted := .released, latch := false, clearPending := false }) ∧
  (State.reset.clock =
    { isSet := false, day := 0, hour := 0, minute := 0, second := 0, frameCount := 0, held := false,
      night := false }) ∧
  (∀ t : StopNo, State.reset.wake.stops[t] = { state := .unused, eta := 0, nameClip := none }) ∧
  (State.reset.wake.entries = []) ∧
  (State.reset.timer =
    { reference := .localOsc, requested := none, strobeAge := 4, strobeSeen := false, frameNumber := 0 }) ∧
  (∀ l : LaneNo, State.reset.lanes[l].state = .down ∧ State.reset.lanes[l].goodRun = 0 ∧
    State.reset.lanes[l].badRun = 0 ∧ State.reset.lanes[l].trailerReceived = false ∧
    State.reset.lanes[l].trailerGood = false) ∧
  (∀ b : Berth, State.reset.berths[b].present = false ∧ State.reset.berths[b].validRun = 0 ∧
    State.reset.berths[b].invalidRun = 0 ∧ State.reset.berths[b].headphone.accepted = false ∧
    State.reset.berths[b].call.accepted = false ∧ State.reset.berths[b].screen.accepted = false ∧
    State.reset.berths[b].knob.accepted = 0 ∧ State.reset.berths[b].changePending = false) ∧
  (State.reset.test.running = false ∧ State.reset.test.lastEnd = .none ∧ State.reset.test.tested = 0 ∧
    State.reset.test.frame = 0 ∧ State.reset.test.generator = 0x7FFF#15 ∧ State.reset.test.recent = []) ∧
  (State.reset.counters =
    { live := Vector.replicate 144 0, snapshot := Vector.replicate 144 0, number := 0, autoFrames := 0 }) ∧
  (State.reset.link =
    { held := [], buffer := [], notices := [], dropped := false, sending := some (.notice (.ready .powerOn)) })

/-- RESTART (R188): it is answered OK at once and its entry holds the hand-over; when the last byte of that reply
has gone, by TRANSMIT_FRAME_DONE or by RESTART_RESET, every block takes its RESTART values, of which the clock
(R112, R123), the frame timer (R146) and READY clips (R70) keep theirs, and the READY notice is the first frame
sent. The downstream frame that each lane is sending, the commands that wait and `orderCount` stay
(notes/assumptions/1.md, 7.md). That RESTART_RESET changes nothing while no reply of a RESTART is being sent is the
model's reading (DEDUCED, notes/assumptions/29.md). -/
def Obligations.RestartResets : Prop :=
  (∀ (s : State) (serial : Byte), LinkReady s →
    exec (.restart serial) s =
      .next (s.answered { kind := 0x02, serial := serial, payload := [] } (okReply [])) ∧
    handOverHeld (s.answered { kind := 0x02, serial := serial, payload := [] } (okReply [])).link.buffer = true) ∧
  (∀ s : State, sendingRestart s.link = false → exec .restartReset s = .next s) ∧
  (∀ s : State, sendingRestart s.link = true →
    ∃ t, exec .restartReset s = .next t ∧ exec .transmitFrameDone s = .next t ∧
      t.settings = State.reset.settings ∧ t.routes = State.reset.routes ∧ t.programmes = State.reset.programmes ∧
      t.voice = State.reset.voice ∧ t.mixer = State.reset.mixer ∧ t.emergency = State.reset.emergency ∧
      t.wake = State.reset.wake ∧ t.berths = State.reset.berths ∧ t.test = State.reset.test ∧
      t.counters = State.reset.counters ∧
      t.clock = { s.clock with
        night := s.clock.isSet && (decide (1320 ≤ s.clock.minuteOfDay) || decide (s.clock.minuteOfDay < 390)) } ∧
      t.timer = { s.timer with reference := .localOsc, requested := none } ∧
      (∀ l : LaneNo, t.lanes[l] = { State.reset.lanes[l] with sending := s.lanes[l].sending }) ∧
      (∀ c v, t.clips.variant c v =
        if (s.clips.variant c v).state = .loading then { state := .empty, declared := 0, chain := [], written := 0 }
        else s.clips.variant c v) ∧
      (∀ n, n ∈ t.clips.free ↔ n ∈ s.clips.free ∨
        ∃ c v, (s.clips.variant c v).state = .loading ∧ n ∈ (s.clips.variant c v).chain) ∧
      t.clips.mem = s.clips.mem ∧
      t.link =
        { held := [], buffer := [], notices := [], dropped := false, sending := some (.notice (.ready .restart)) } ∧
      t.orderCount = s.orderCount ∧ t.pending = s.pending)

/-- The request buffer (R179, R180), for the frame of every request, by its own row or as line bytes (`Brings`): a
request that finds eight entries is dropped and counted, one that finds the hand-over held waits at the back, and a frame
of an unassigned kind or of a length other than that of section 11.7.2 is answered UNKNOWN_REQUEST or BAD_LENGTH and
passed to no block. With the hand-over free, the oldest WAITING request is handled: it is answered, and the next one
follows, or it is held. -/
def Obligations.RequestsAreBufferedAndChecked : Prop :=
  (∀ (s : State) (c : Instr) (f : LinkFrame), Brings s c f →
    (s.link.buffer.length = 8 → LinkQuiet s → exec c s = .next (raise .droppedRequests 1 s).sent) ∧
    (s.link.buffer.length < 8 → handOverHeld s.link.buffer = true →
      exec c s = .next (setLink (fun l => { l with buffer := l.buffer ++ [{ frame := f, state := .waiting }] }) s).sent) ∧
    (LinkReady s → f.kind ∉ assignedKinds → exec c s = .next (s.answered f (refuse .unknownRequest))) ∧
    (LinkReady s →
      let lengths : List (Byte × Nat) :=
        [(0x01, 0), (0x02, 0), (0x03, 3), (0x04, 1), (0x05, 32), (0x06, 0), (0x10, 12), (0x11, 0), (0x12, 1), (0x13, 1),
         (0x18, 2), (0x19, 1), (0x1A, 1), (0x20, 11), (0x21, 1), (0x22, 1), (0x23, 0), (0x28, 6), (0x2A, 2), (0x2B, 1),
         (0x2C, 1), (0x30, 4), (0x31, 0), (0x32, 4), (0x33, 1), (0x34, 1), (0x35, 0), (0x36, 3), (0x37, 1), (0x38, 0),
         (0x3A, 0), (0x40, 2), (0x41, 1), (0x42, 5), (0x43, 0), (0x48, 0), (0x49, 3)]
      let short := f.payload.length < 8
      let count := (f.payload.getD 6 0).toNat * 256 + (f.payload.getD 7 0).toNat
      (∃ n, (f.kind, n) ∈ lengths ∧ f.payload.length ≠ n) ∨
          (f.kind = 0x29 ∧ (short ∨ f.payload.length ≠ 8 + 2 * count)) →
        exec c s = .next (s.answered f (refuse .badLength)))) ∧
  (∀ (s t : State) (ahead behind : List BufferEntry) (f : LinkFrame),
    s.link.buffer = ahead ++ { frame := f, state := .waiting } :: behind → (∀ e ∈ ahead, e.state ≠ .waiting) →
    handOverHeld s.link.buffer = false →
    (handle f s = (t, .held) →
      settle s = (setLink (fun l => { l with
        buffer := ahead ++ { frame := f, state := .inHand } :: behind }) t).sent) ∧
    (∀ r, handle f s = (t, .reply r) →
      settle s = settle (setLink (fun l => { l with
        buffer := ahead ++ { frame := f, state := .answered r } :: behind }) t)))

/-- The receiver (R176 to R179): the bytes of a whole frame with a correct CRC, taken in HUNTING, are the arrival of
that request. A sync byte starts a frame; bytes without one are discarded without a count; a frame with a wrong CRC,
a length above 1000 or a gap is discarded with one BAD_FRAMES count, and what followed its sync byte is searched
again. The bytes of a frame and the check value of the CRC-16 are those of R176 and R177. -/
def Obligations.ReceiverTakesAndDiscards : Prop :=
  (∀ f : LinkFrame,
     let covered := [highByte (BitVec.ofNat 16 f.payload.length), lowByte (BitVec.ofNat 16 f.payload.length), f.kind,
       f.serial] ++ f.payload
     f.covered = covered ∧ f.bytes = [0xA7] ++ covered ++ [highByte (crc16 covered), lowByte (crc16 covered)]) ∧
  crc16 [0x31, 0x32, 0x33, 0x34, 0x35, 0x36, 0x37, 0x38, 0x39] = 0x29B1 ∧
  (∀ (s : State) (f : LinkFrame), s.link.held = [] → f.payload.length ≤ 1000 →
     exec (.frameReceived f.bytes) s = .next (requestArrives f s)) ∧
  (∀ s : State, LinkQuiet s →
     (s.link.held = [] → exec .syncByte s = .next (setLink (fun l => { l with held := [0xA7] }) s).sent) ∧
     (∀ bytes : List Byte, s.link.held = [] → (0xA7 : Byte) ∉ bytes →
       exec (.frameReceived bytes) s = .next s.sent) ∧
     (∀ (f : LinkFrame) (crc : BitVec 16), s.link.held = [] → f.payload.length ≤ 1000 → crc16 f.covered ≠ crc →
       (0xA7 : Byte) ∉ f.covered ++ be16 crc →
       exec (.frameReceived (0xA7 :: (f.covered ++ be16 crc))) s = .next (raise .badFrames 1 s).sent) ∧
     (∀ high low : Byte, s.link.held = [0xA7] → 1000 < high.toNat * 256 + low.toNat →
       exec (.lengthAbove1000 high low) s =
         .next (raise .badFrames 1 (setLink (fun l => { l with
           held := if high = 0xA7 then [0xA7, low] else if low = 0xA7 then [0xA7] else [] }) s)).sent) ∧
     (s.link.held = [] → exec .interByteGap s = .next s.sent) ∧
     (∀ tail : List Byte, s.link.held = 0xA7 :: tail → (0xA7 : Byte) ∉ tail →
       exec .interByteGap s = .next (raise .badFrames 1 (setLink (fun l => { l with held := [] }) s)).sent) ∧
     (∀ skipped kept : List Byte, s.link.held = 0xA7 :: (skipped ++ 0xA7 :: kept) → (0xA7 : Byte) ∉ skipped →
       kept.length < 4 → (∀ high low rest, kept = high :: low :: rest → high.toNat * 256 + low.toNat ≤ 1000) →
       exec .interByteGap s =
         .next (raise .badFrames 1 (setLink (fun l => { l with held := 0xA7 :: kept }) s)).sent))

/-- The transmitter (R176, R182, R184): when a frame has gone, its entry leaves the buffer; an idle transmitter
takes the reply of the oldest ANSWERED entry, else the oldest notice, else stays idle. An OK reply to STATUS takes
the notices-dropped flag as its sending begins and clears it. A notice goes out with serial 0 and the kind and payload
of section 11.7.8, coded as in section 11.7.4. -/
def Obligations.TransmitterSendsRepliesFirst : Prop :=
  (∀ s : State, LinkQuiet s →
    (s.link.sending = none → exec .transmitFrameDone s = .next s) ∧
    (∀ n, s.link.sending = some (.notice n) →
      exec .transmitFrameDone s = .next (setLink (fun l => { l with sending := none }) s).sent) ∧
    (∀ f, s.link.sending = some (.reply f) → sendingRestart s.link = false →
      exec .transmitFrameDone s =
        .next (setLink (fun l => { l with sending := none, buffer := dropAnswered l.buffer }) s).sent)) ∧
  (∀ (l : Link) (ahead behind : List BufferEntry) (f : LinkFrame) (r : Reply), l.sending = none →
    l.buffer = ahead ++ { frame := f, state := .answered r } :: behind →
    (∀ e ∈ ahead, e.state = .waiting ∨ e.state = .inHand) →
    dropAnswered l.buffer = ahead ++ behind ∧
    l.transmit =
      (if f.kind = 0x01 ∧ r.result = .ok then
        { l with sending := some (.reply { kind := 0x81, serial := f.serial,
                                           payload := r.result.code :: (r.items ++ [flag l.dropped]) }),
                 dropped := false }
      else
        { l with sending := some (.reply
            { kind := if 1 ≤ f.kind.toNat ∧ f.kind.toNat ≤ 0x4F then f.kind + 0x80 else 0x80,
              serial := f.serial,
              payload := r.result.code :: r.items }) })) ∧
  (∀ l : Link, l.sending = none → (∀ e ∈ l.buffer, e.state = .waiting ∨ e.state = .inHand) →
    (∀ n rest, l.notices = n :: rest → l.transmit = { l with notices := rest, sending := some (.notice n) }) ∧
    (l.notices = [] → l.transmit = l)) ∧
  (∀ l : Link, l.sending ≠ none → l.transmit = l) ∧
  (∀ f : LinkFrame, (Sending.reply f).frame = f) ∧
  (∀ n : Notice,
    let frame := fun (kind : Byte) (payload : List Byte) => ({ kind := kind, serial := 0, payload := payload } : LinkFrame)
    (Sending.notice n).frame =
      match n with
      | .ready k => frame 0xC0 [match k with | .powerOn => 0 | .restart => 1]
      | .berthChange b present headphone screen =>
        frame 0xC1 [u8 (b.val + 1), if present then 1 else 0, if headphone then 1 else 0, if screen then 1 else 0]
      | .call b => frame 0xC2 [u8 (b.val + 1)]
      | .annStarted id resumed => frame 0xC3 [id, if resumed then 1 else 0]
      | .annEnded id reason => frame 0xC4 [id, match reason with | .done => 0 | .withdrawn => 1 | .timeout => 2]
      | .wakeState b stop state reason auto =>
        frame 0xC5 [u8 (b.val + 1), u8 (stop.val + 1),
          (match state with | .armed => 0 | .ringing => 1 | .acked => 2 | .missed => 3),
          (match reason with
            | .due => 0 | .announced => 1 | .noClip => 2 | .noId => 3 | .queueFull => 4 | .limit => 5 | .passed => 6),
          auto]
      | .programmeState p before after =>
        let code : ProgrammeState → Byte := fun x => match x with | .absent => 0 | .running => 1 | .stalled => 2
        frame 0xC6 [u8 (p.val + 1), code before, code after]
      | .laneState l before after cause =>
        let code : LaneState → Byte := fun x => match x with | .disabled => 0 | .down => 1 | .up => 2
        frame 0xC7 [u8 (l.val + 1), code before, code after,
          match cause with | .trained => 0 | .lost => 1 | .request => 2]
      | .emergency event line =>
        frame 0xC8 [(match event with | .latched => 0 | .cleared => 1),
          match line with | .released => 0 | .asserted => 1]
      | .stackLimit id cls limit occupancy =>
        frame 0xC9 [id, (match cls with | .stop => 1 | .service => 2 | .crew => 3 | .safety => 4), u8 limit,
          u8 occupancy]
      | .clockLimit day hour minute second journey =>
        frame 0xCA [u8 day, u8 hour, u8 minute, u8 second, highByte (BitVec.ofNat 16 journey),
          lowByte (BitVec.ofNat 16 journey)]
      | .referenceLost => frame 0xCB [0, 0])

/-- STATUS (R187) replies with the items of section 11.7.6 and changes nothing but the link. -/
def Obligations.StatusReports : Prop :=
  ∀ (s : State) (serial : Byte), LinkReady s →
    exec (.status serial) s =
      .next (s.answered { kind := 0x01, serial := serial, payload := [] }
        (okReply [flag s.emergency.latch,
          (match s.emergency.accepted with | .released => 0 | .asserted => 1),
          (if s.clock.isSet = false then 0 else if s.clock.held then 2 else 1),
          flag s.clock.night,
          (if s.voice.active = none then 0 else if s.emergency.latch then 2 else 1),
          (match s.voice.active with | none => 0 | some r => r.id),
          u8 s.voice.stack.length, u8 s.voice.waiting.length,
          (match s.timer.reference with | .localOsc => 0 | .port => 1),
          s.lanes[0].state.code, s.lanes[1].state.code, s.lanes[2].state.code, s.lanes[3].state.code,
          flag s.test.running, s.test.lastEnd.code]))

/-- SETTING_GET (R186): the value in force, and BAD_FIELD for a number outside 1 to 17. A setting that is replaced
reads back at once. -/
def Obligations.SettingGetReports : Prop :=
  ∀ (s : State) (serial number : Byte), LinkReady s →
    (number.toNat < 1 ∨ 17 < number.toNat →
      exec (.settingGet serial number) s =
        .next (s.answered { kind := 0x04, serial := serial, payload := [number] } (refuse .badField))) ∧
    (∀ i : Fin 17, number.toNat = i.val + 1 →
      exec (.settingGet serial number) s =
        .next (s.answered { kind := 0x04, serial := serial, payload := [number] }
          (okReply (number :: u16 (s.settings.get i)))) ∧
      ∀ v, (s.settings.put i v).get i = v)

/-- SETTING_SET (R185): BAD_FIELD outside 1 to 17; otherwise the value clamped to the setting's range replaces it,
no other setting changes, and settings 1, 2 (R122), 12 (R44) and 16 (R171) act at once. The ranges and the defaults are
those of the table of section 11.5. -/
def Obligations.SettingSetClampsAndActs : Prop :=
  (settingRanges.toList =
    [(0, 1439), (0, 1439), (0, 32767), (0, 32767), (0, 32767), (0, 32767), (0, 32767), (0, 32767), (0, 32767),
     (0, 5000), (5, 600), (1, 3), (0, 15), (100, 5000), (10, 600), (0, 1), (1, 100)]) ∧
  ((List.finRange 17).map State.reset.settings.get =
    [1320, 390, 4096, 2048, 16384, 16384, 23170, 32767, 16384, 1000, 120, 3, 4, 2000, 120, 1, 20]) ∧
  ∀ (s : State) (serial number : Byte) (value : BitVec 16), LinkReady s →
    let f : LinkFrame := { kind := 0x03, serial := serial, payload := [number, highByte value, lowByte value] }
    (number.toNat < 1 ∨ 17 < number.toNat →
      exec (.settingSet serial number value) s = .next (s.answered f (refuse .badField))) ∧
    (∀ i : Fin 17, number.toNat = i.val + 1 →
      let v := min settingRanges[i].2 (max settingRanges[i].1 value.toNat)
      let t : State := { s with settings := s.settings.put i v }
      let ok := okReply (number :: u16 v)
      (∀ j : Fin 17, j ≠ i → (s.settings.put i v).get j = s.settings.get j) ∧
      (i.val ≠ 0 → i.val ≠ 1 → i.val ≠ 11 → i.val ≠ 15 →
        exec (.settingSet serial number value) s = .next (t.answered f ok)) ∧
      (i.val = 0 ∨ i.val = 1 →
        exec (.settingSet serial number value) s =
          .next (State.answered { t with clock := { s.clock with
            night := s.clock.isSet && inWindow t.settings.nightStart t.settings.nightEnd s.clock.minuteOfDay } }
            f ok)) ∧
      (i.val = 15 →
        exec (.settingSet serial number value) s =
          .next (State.answered { t with counters := { s.counters with
            autoFrames := if v = s.settings.autoSnapshot then s.counters.autoFrames else 0 } } f ok)) ∧
      (i.val = 11 →
        let armed : State := { t with voice := { s.voice with
          stackLimitArmed := s.voice.stackLimitArmed || decide (s.voice.stack.length < v) } }
        exec (.settingSet serial number value) s =
          .next (State.answered (if s.settings.depthLimit < v ∧ s.emergency.latch = false
            then preemptionCheck armed else armed) f ok)))

/-! ## Berth route table (chapter 1) -/

/-- ROUTE_SET (R3, R4, R190): a request that fails a check is refused and writes nothing; otherwise the six fields,
as coded, stand in the staged record of every berth of the set, a card byte of 0 as no card (section 11.7), and the reply
is OK at once without take-now. With take-now the request stays in hand as a TAKE does. -/
def Obligations.RouteSetStages : Prop :=
  ∀ (s : State) (serial : Byte) (set : BerthSet) (programme language conditioning card cap speaker now : Byte),
    LinkReady s →
    let f : LinkFrame :=
      { kind := 0x10, serial := serial,
        payload := setField set ++ [programme, language, conditioning, card, cap, speaker, now] }
    let bad := set = 0 ∨ 6 < programme.toNat ∨ 3 < language.toNat ∨ 2 < conditioning.toNat ∨ 253 < card.toNat ∨
      15 < cap.toNat ∨ 1 < speaker.toNat ∨ 1 < now.toNat
    (bad → exec (.routeSet serial set programme language conditioning card cap speaker now) s =
      .next (s.answered f (refuse .badField))) ∧
    (¬ bad → ∃ (r : RouteRecord) (t : State),
      r.fields = [programme, language, conditioning, card, cap, speaker] ∧
      (card = 0 → r.card = none) ∧
      t = { s with routes := t.routes } ∧
      (∀ b : Berth, t.routes[b] = if inSet set b then { s.routes[b] with staged := r } else s.routes[b]) ∧
      exec (.routeSet serial set programme language conditioning card cap speaker now) s =
        .next (if now = 0 then t.answered f (okReply []) else t.inHand f))

/-- TAKE (R5) stays in hand, whatever the state of the part, and changes nothing yet.
Steps 1 and 2 of R8 at a lane frame start (R5 to R7), whatever else the request buffer holds: every guard above 0 is
lowered by 1; a waiting TAKE then copies every staged record, a changed programme loading the guard with the setting,
and its entry is answered OK, the other entries staying as they are. No setting and no clip changes. With nothing to
hand over then, only the transmitter follows (R182). -/
def Obligations.TakeWaitsForFrameStart : Prop :=
  (∀ (s : State) (serial : Byte), LinkReady s →
     exec (.take serial) s = .next (s.inHand { kind := 0x11, serial := serial, payload := [] }) ∧
     handOverHeld (s.inHand { kind := 0x11, serial := serial, payload := [] }).link.buffer = true) ∧
  (∀ (s : State) (line : Line),
     exec (.laneFrameStart line) s = .next (settle (frameBegun line false s)) ∧
     ∀ strobe : Bool,
       let t := frameBegun line strobe s
       let takes := ∃ e ∈ s.link.buffer, e.state = .inHand
       t.settings = s.settings ∧ t.clips = s.clips ∧ t.pending = s.pending ∧ t.link.held = s.link.held ∧
       t.link.sending = s.link.sending ∧
       t.link.buffer = s.link.buffer.map (fun e =>
         if e.state = .inHand then { e with state := .answered (okReply []) } else e) ∧
       (handOverHeld t.link.buffer = true ∨ (∀ e ∈ t.link.buffer, e.state ≠ .waiting) → settle t = t.sent) ∧
       ∀ b : Berth, t.routes[b].staged = s.routes[b].staged ∧
         (¬ takes → t.routes[b].active = s.routes[b].active ∧ t.routes[b].guard = s.routes[b].guard - 1) ∧
         (takes → t.routes[b].active = s.routes[b].staged ∧
           t.routes[b].guard =
             if s.routes[b].staged.programme = s.routes[b].active.programme then s.routes[b].guard - 1
             else s.settings.switchGuard))

/-- The derived video mode, card, video state and cells of every berth at a lane frame start (R6, R8 to R13, R22): the
first line of R10 that holds, with the values their owners hold for the frame that begins, a TAKE that changes the
berth's programme putting the video state to WAITING_ENTRY first. -/
def Obligations.FrameStartDerivesVideo : Prop :=
  ∀ (s : State) (line : Line), exec (.laneFrameStart line) s = .next (settle (frameBegun line false s)) ∧
    ∀ (strobe : Bool) (b : Berth),
      let t := frameBegun line strobe s
      let x := s.routes[b]
      let y := t.routes[b]
      let retuned := (∃ e ∈ s.link.buffer, e.state = .inHand) ∧ x.staged.programme ≠ x.active.programme
      let video := if retuned then VideoState.waitingEntry else x.video
      let card := fun n : Byte => y.mode = .card ∧ y.card = n ∧ y.cells = [] ∧ y.video = video
      if t.emergency.latch then card 255
      else if inSet t.test.frameSet b then card 0
      else
        match (coveredBy t.voice b).bind Coverage.card, y.active.card, y.active.programme with
        | some c, _, _ => card c
        | none, some c, _ => card c
        | none, none, none => card 0
        | none, none, some p =>
          if t.programmes[p].state ≠ .running then card 254
          else
            let cells := t.programmes[p].forwardingCells
            if x.mode ≠ .card ∧ video = .passing then
              y.mode = .pass ∧ y.card = 0 ∧ y.cells = cells ∧ y.video = .passing
            else if cells.any VideoCell.entry then
              y.mode = .pass ∧ y.card = 0 ∧ y.cells = cells.dropWhile (fun c => !c.entry) ∧ y.video = .passing
            else y.mode = .hold ∧ y.card = 0 ∧ y.cells = [] ∧ y.video = .waitingEntry

/-- ROUTE_GET (R19) and BERTH_STATUS (R20, R21, R181): BAD_FIELD outside 1 to 40; otherwise the items as held, and
BERTH_STATUS clears the berth's BERTH_CHANGE pending flag, which is all that changes. The output path is EMERGENCY and
the berth is not covered while the latch is set; otherwise the path is TEST in the lane test set of the frame, else
NORMAL. -/
def Obligations.BerthReportsAnswer : Prop :=
  ∀ (s : State) (serial k : Byte), LinkReady s →
    let fr : LinkFrame := { kind := 0x12, serial := serial, payload := [k] }
    let fb : LinkFrame := { kind := 0x13, serial := serial, payload := [k] }
    (k.toNat < 1 ∨ 40 < k.toNat →
      exec (.routeGet serial k) s = .next (s.answered fr (refuse .badField)) ∧
      exec (.berthStatus serial k) s = .next (s.answered fb (refuse .badField))) ∧
    (∀ b : Berth, k.toNat = b.val + 1 →
      exec (.routeGet serial k) s =
        .next (s.answered fr (okReply (s.routes[b].staged.fields ++ s.routes[b].active.fields ++
          [u8 s.routes[b].guard, s.routes[b].video.code, s.routes[b].mode.code, s.routes[b].card]))) ∧
      exec (.berthStatus serial k) s =
        .next (State.answered (setBerth b (fun x => { x with changePending := false }) s) fb
          (okReply ([flag s.berths[b].present, flag s.berths[b].headphone.accepted, flag s.berths[b].call.accepted,
            flag s.berths[b].screen.accepted, u8 s.berths[b].knob.accepted.val, u8 s.mixer.berths[b].gains.step] ++
            u16 s.mixer.berths[b].gains.gp ++ u16 s.mixer.berths[b].gains.ga ++ u16 s.mixer.berths[b].gains.gsp ++
            u16 s.mixer.berths[b].gains.gsa ++
            [(if s.emergency.latch then 1 else if inSet s.test.frameSet b then 2 else 0),
              u8 s.mixer.berths[b].peakLevel] ++
            (if s.emergency.latch then [0, 0] else match coveredBy s.voice b with | none => [0, 0] | some c => [1, c.id]) ++
            (match s.wake.entries.find? (fun e => e.berth == b) with
              | none => [4, 0, 0]
              | some e => [e.state.code, number e.stop, flag e.deferred])))))

/-- The programme sample P of a berth (R15 to R17): 0 under the conditions of R16, else the 1 kHz square wave under
TONE and the pairs of the chosen track under PASS. -/
def Obligations.ProgrammeSampleIsChosen : Prop :=
  ∀ (s : State) (b : Berth) (k : Nat), k < 48 →
    let r := s.routes[b].active
    (r.programme = none ∨ 0 < s.routes[b].guard ∨ r.conditioning = .silence →
      programmePair s b k = (0, 0)) ∧
    (∀ p, r.programme = some p →
      (s.programmes[p].state ≠ .running ∨ s.programmes[p].usable = none → programmePair s b k = (0, 0)) ∧
      ∀ block, s.programmes[p].state = .running → s.programmes[p].usable = some block → s.routes[b].guard = 0 →
        (r.conditioning = .tone →
          programmePair s b k = if k < 24 then (0x2000#16, 0x2000#16) else (0xE000#16, 0xE000#16)) ∧
        (r.conditioning = .pass →
          programmePair s b k =
            (block.tracks.getD (if r.language.val < s.programmes[p].countInForce then r.language.val else 0)
              []).getD k (0, 0)))

/-! ## Programme inputs (chapter 2) -/

/-- The programme input unit at a lane frame start (R25 to R28, R31, R32, R34): lists and audio move on, the declared
count comes into force, the interval counter of a RUNNING programme gains 1 and at the stall limit the programme becomes
STALLED with its PROGRAMME_STATE notice, and of no other change such a notice is queued; STALLS and AUDIO_GAP are
raised. -/
def Obligations.FrameStartMovesProgrammes : Prop :=
  ∀ (s : State) (line : Line), exec (.laneFrameStart line) s = .next (settle (frameBegun line false s)) ∧
    ∀ (strobe : Bool) (p : ProgrammeNo),
      let t := frameBegun line strobe s
      let x := s.programmes[p]
      let y := t.programmes[p]
      let n := x.interval.getD 0 + 1
      let stalls := x.state = .running ∧ s.settings.stallLimit ≤ n
      y.trackCount = x.trackCount ∧ y.countInForce = x.trackCount ∧
      y.forwardingCells = x.receivingCells ∧ y.receivingCells = [] ∧
      y.forwardingAudio = x.receivingAudio ∧ y.receivingAudio = none ∧
      y.lastInterval = x.lastInterval ∧ y.minInterval = x.minInterval ∧ y.maxInterval = x.maxInterval ∧
      (stalls → y.state = .stalled ∧ y.interval = none) ∧
      (¬ stalls → y.state = x.state ∧ y.interval = if x.state = .running then some n else x.interval) ∧
      (y.usable =
        match x.receivingAudio with
        | none => none
        | some block => if x.trackCount ≤ block.tracks.length then some block else none) ∧
      CountsAtFrame s t (.stalls p) (if stalls then 1 else 0) ∧
      CountsAtFrame s t (.audioGap p) (if y.state = .running ∧ y.usable = none then 1 else 0) ∧
      (stalls → Reports s t (.programmeState p .running .stalled)) ∧
      (∀ before after, ¬ (stalls ∧ before = .running ∧ after = .stalled) →
        KeepsCount s t (.programmeState p before after))

/-- CELL_ARRIVAL (R24, R29, R34): a cell of programmes 1 to 6 joins a receiving list of fewer than 4 cells or is
dropped and counted; an entry-point cell of a RUNNING programme records the counter and restarts it, and of another
makes it RUNNING with a notice. Other cells change nothing, and neither does a cell that arrives before the first lane
frame start after a reset (R23; notes/assumptions/39.md). -/
def Obligations.CellArrivalIsTaken : Prop :=
  ∀ (s : State) (number : Byte) (entry : Bool) (video : List Byte), LinkQuiet s →
    (number.toNat < 1 ∨ 6 < number.toNat ∨ s.mixer.frameOpen = false →
      exec (.cellArrival number entry video) s = .next s.sent) ∧
    (∀ p : ProgrammeNo, number.toNat = p.val + 1 → s.mixer.frameOpen = true →
      let x := s.programmes[p]
      let kept : State := if x.receivingCells.length < 4 then
          setProgramme p (fun r => { r with receivingCells := r.receivingCells ++ [{ entry := entry, data := video }] }) s
        else raise (.cellDrop p) 1 s
      (entry = false → exec (.cellArrival number entry video) s = .next kept.sent) ∧
      (entry = true → x.state = .running → ∀ n, x.interval = some n →
        exec (.cellArrival number entry video) s = .next (setProgramme p (fun r => { r with
          lastInterval := some n,
          minInterval := some (match x.minInterval with | none => n | some m => if m ≤ n then m else n),
          maxInterval := some (match x.maxInterval with | none => n | some m => if n ≤ m then m else n),
          interval := some 0 }) kept).sent) ∧
      (entry = true → x.state ≠ .running →
        exec (.cellArrival number entry video) s =
          .next (queueNotice (.programmeState p x.state .running)
            (setProgramme p (fun r => { r with state := .running, interval := some 0 }) kept)).sent))

/-- AUDIO_BLOCK_ARRIVAL (R26) and MIC_SAMPLE (R51): the first whole and well made block of a frame becomes the
receiving audio and every other block changes nothing; a microphone sample joins those of the frame, and after the
48th is discarded. What arrives before the first lane frame start after a reset changes nothing (R23;
notes/assumptions/39.md). -/
def Obligations.AudioInputsAreCollected : Prop :=
  ∀ s : State, LinkQuiet s →
    (s.mixer.frameOpen = false →
      (∀ number field tracks complete, exec (.audioBlockArrival number field tracks complete) s = .next s.sent) ∧
      (∀ mic x, exec (.micSample mic x) s = .next s.sent)) ∧
    (s.mixer.frameOpen = true →
      (∀ (number field : Byte) (tracks : List (List (Sample × Sample))) (complete : Bool),
        (∀ p : ProgrammeNo, number.toNat = p.val + 1 →
          (complete = true → 1 ≤ field.toNat → field.toNat ≤ 4 → tracks.length = field.toNat →
            (∀ x ∈ tracks, x.length = 48) → s.programmes[p].receivingAudio = none →
            exec (.audioBlockArrival number field tracks complete) s =
              .next (setProgramme p (fun r => { r with receivingAudio := some { tracks := tracks } }) s).sent) ∧
          (complete = false ∨ field.toNat < 1 ∨ 4 < field.toNat ∨ tracks.length ≠ field.toNat ∨
              (∃ x ∈ tracks, x.length ≠ 48) ∨ s.programmes[p].receivingAudio ≠ none →
            exec (.audioBlockArrival number field tracks complete) s = .next s.sent)) ∧
        (number.toNat < 1 ∨ 6 < number.toNat →
          exec (.audioBlockArrival number field tracks complete) s = .next s.sent)) ∧
      (∀ x : Sample,
        exec (.micSample .micA x) s = .next (setVoice (fun v => { v with
          collectingA := if v.collectingA.length < 48 then v.collectingA ++ [x] else v.collectingA }) s).sent ∧
        exec (.micSample .micB x) s = .next (setVoice (fun v => { v with
          collectingB := if v.collectingB.length < 48 then v.collectingB ++ [x] else v.collectingB }) s).sent))

/-- The events whose rows name a count that is reached (R7, R28, R102, R139; notes/assumptions/2.md): a guard ends;
a RUNNING programme becomes STALLED with its count and notice; the peak period ends and every level is the number
of significant bits of its running peak; a RINGING entry becomes MISSED with its notice. Of any other object the
event changes nothing. -/
def Obligations.ReachedCountsAct : Prop :=
  ∀ s : State, LinkQuiet s →
    (∀ b : Berth, exec (.switchGuardExpired b) s = .next (setRoute b (fun x => { x with guard := 0 }) s).sent) ∧
    (∀ p : ProgrammeNo,
      (s.programmes[p].state = .running →
        exec (.programmeStall p) s = .next (queueNotice (.programmeState p .running .stalled) (raise (.stalls p) 1
          (setProgramme p (fun r => { r with state := .stalled, interval := none }) s))).sent) ∧
      (s.programmes[p].state ≠ .running → exec (.programmeStall p) s = .next s.sent)) ∧
    (∃ m : Mixer,
      exec .peakPeriodEnd s = .next (State.sent { s with mixer := m }) ∧
      m.curve = s.mixer.curve ∧ m.periodFrames = 0 ∧ m.frameOpen = s.mixer.frameOpen ∧
      ∀ b : Berth, m.berths[b].runningPeak = 0 ∧ m.berths[b].gains = s.mixer.berths[b].gains ∧
        m.berths[b].saturated = s.mixer.berths[b].saturated ∧ m.berths[b].output = s.mixer.berths[b].output ∧
        (s.mixer.berths[b].runningPeak = 0 → m.berths[b].peakLevel = 0) ∧
        (∀ k, 2 ^ k ≤ s.mixer.berths[b].runningPeak → s.mixer.berths[b].runningPeak < 2 ^ (k + 1) → k < 15 →
          m.berths[b].peakLevel = k + 1)) ∧
    (∀ (b : Berth) (e : WakeEntry), s.wake.entries.find? (fun x => x.berth == b) = some e → e.state = .ringing →
      exec (.ringLimit b) s = .next (queueNotice (.wakeState b e.stop .missed .limit 0)
        (setEntries (fun es => es.map fun x => if x.berth = b then
          { x with state := .missed, deferred := false, ringSeconds := max x.ringSeconds s.settings.ringLimit }
          else x) s)).sent) ∧
    (∀ b : Berth, (∀ e, s.wake.entries.find? (fun x => x.berth == b) = some e → e.state ≠ .ringing) →
      exec (.ringLimit b) s = .next s.sent)

/-- PROGRAMME_SET (R32) and PROGRAMME_STATUS (R33): BAD_FIELD outside the ranges; otherwise the declared count is
set, or the record is reported and the two extremes become none. -/
def Obligations.ProgrammeRequestsAnswer : Prop :=
  ∀ (s : State) (serial number tracks : Byte), LinkReady s →
    let fs : LinkFrame := { kind := 0x18, serial := serial, payload := [number, tracks] }
    let fq : LinkFrame := { kind := 0x19, serial := serial, payload := [number] }
    (number.toNat < 1 ∨ 6 < number.toNat ∨ tracks.toNat < 1 ∨ 4 < tracks.toNat →
      exec (.programmeSet serial number tracks) s = .next (s.answered fs (refuse .badField))) ∧
    (number.toNat < 1 ∨ 6 < number.toNat →
      exec (.programmeStatus serial number) s = .next (s.answered fq (refuse .badField))) ∧
    (∀ p : ProgrammeNo, number.toNat = p.val + 1 →
      (1 ≤ tracks.toNat → tracks.toNat ≤ 4 →
        exec (.programmeSet serial number tracks) s =
          .next (State.answered (setProgramme p (fun r => { r with trackCount := tracks.toNat }) s) fs (okReply []))) ∧
      exec (.programmeStatus serial number) s =
        .next (State.answered (setProgramme p (fun r => { r with minInterval := none, maxInterval := none }) s) fq
          (okReply ([s.programmes[p].state.code, u8 s.programmes[p].countInForce] ++
            intervalField s.programmes[p].lastInterval ++ intervalField s.programmes[p].minInterval ++
            intervalField s.programmes[p].maxInterval))))

/-! ## Voice channel (chapter 3) -/

/-- ANNOUNCE (R36, R38, R41 to R43): the checks in their order, each with its reply and nothing changed; an accepted
record is placed by the first case of R42, and one turned away by the depth limit gives one STACK_LIMIT notice while
armed. In the pending list it stands behind every record of its own or a higher class and in front of every record of a
lower class (R38). -/
def Obligations.AnnouncePlacesRecord : Prop :=
  (∀ (list : List Announcement) (r : Announcement), list.Pairwise (fun x y => y.cls.rank ≤ x.cls.rank) →
    ∃ ahead behind : List Announcement, list = ahead ++ behind ∧ insertWaiting list r = ahead ++ r :: behind ∧
      (∀ x ∈ ahead, r.cls.rank ≤ x.cls.rank) ∧ ∀ x ∈ behind, x.cls.rank < r.cls.rank) ∧
  ∀ (s : State) (serial id cls origin clip : Byte) (set : BerthSet) (repeats card : Byte), LinkReady s →
    let f : LinkFrame :=
      { kind := 0x20, serial := serial,
        payload := [id, cls, origin, clip] ++ setField set ++ [repeats, card] }
    let run := exec (.announce serial id cls origin clip set repeats card) s
    let bad := id.toNat < 1 ∨ 239 < id.toNat ∨ cls.toNat < 1 ∨ 4 < cls.toNat ∨ 2 < origin.toNat ∨
      (origin = 0 ∧ (clip.toNat < 1 ∨ 64 < clip.toNat)) ∨ 253 < card.toNat ∨ set = 0
    (bad → run = .next (s.answered f (refuse .badField))) ∧
    (¬ bad → (∃ r ∈ s.voice.records, r.id = id) → run = .next (s.answered f (refuse .idInUse))) ∧
    (¬ bad → (∀ r ∈ s.voice.records, r.id ≠ id) →
      (∀ c : ClipNo, origin = 0 → clip.toNat = c.val + 1 → (s.clips.variant c 0).state ≠ .ready →
        run = .next (s.answered f (refuse .noClip))) ∧
      (∀ (k : AnnClass) (o : Origin),
        cls = u8 k.rank → origin = o.code → (∀ c, o = .clip c → clip.toNat = c.val + 1) →
        (∀ c, o = .clip c → (s.clips.variant c 0).state = .ready) →
        let r : Announcement :=
          { id := id, cls := k, origin := o, berths := set,
            repeats := match o with | .clip _ => min 3 (max 1 repeats.toNat) | .mic _ => 1,
            card := if card = 0 then none else some card }
        let waits : State := { s with voice := { s.voice with waiting := insertWaiting s.voice.waiting r } }
        (s.emergency.latch = true →
          run = if 16 ≤ s.voice.waiting.length then .next (s.answered f (refuse .queueFull))
            else .next (waits.answered f (okReply [1]))) ∧
        (s.emergency.latch = false → s.voice.active = none →
          run = .next (State.answered { s with voice := { s.voice with
            active := some { r with awaitingStart := true }, readers := [] } } f (okReply [0]))) ∧
        (∀ a, s.emergency.latch = false → s.voice.active = some a →
          (a.cls.rank < k.rank → s.voice.stack.length < s.settings.depthLimit →
            run = .next (State.answered { s with voice := { s.voice with
              active := some { r with awaitingStart := true }, stack := a :: s.voice.stack, readers := [] } }
              f (okReply [0]))) ∧
          (k.rank ≤ a.cls.rank →
            run = if 16 ≤ s.voice.waiting.length then .next (s.answered f (refuse .queueFull))
              else .next (waits.answered f (okReply [1]))) ∧
          (a.cls.rank < k.rank → s.settings.depthLimit ≤ s.voice.stack.length →
            run = if 16 ≤ s.voice.waiting.length then .next (s.answered f (refuse .queueFull))
              else if s.voice.stackLimitArmed then
                .next (State.answered (queueNotice
                  (.stackLimit id k s.settings.depthLimit s.voice.stack.length)
                  (setVoice (fun v => { v with stackLimitArmed := false }) waits)) f (okReply [1]))
              else .next (waits.answered f (okReply [1]))))))

/-- ANN_END (R53), ANN_WITHDRAW (R54, R55) and ANN_LIST (R56), in every place the id can stand. The records of ANN_LIST
are those of section 11.7.7: 11 bytes of host fields, 25 bytes for the active record, 20 for a stack record. -/
def Obligations.AnnouncementRequestsAnswer : Prop :=
  ∀ (s : State) (serial id : Byte), LinkReady s →
    let yes := fun x : Bool => if x then (1 : Byte) else 0
    let two := fun n : Nat => [highByte (BitVec.ofNat 16 n), lowByte (BitVec.ofNat 16 n)]
    let phase := fun x : Phase => match x with | .playing => (0 : Byte) | .gap => 1
    let host := fun r : Announcement =>
      [r.id, (match r.cls with | .stop => 1 | .service => 2 | .crew => 3 | .safety => 4),
        (match r.origin with | .clip _ => 0 | .mic .micA => 1 | .mic .micB => 2),
        (match r.origin with | .clip c => u8 (c.val + 1) | .mic _ => 0),
        r.berths.extractLsb' 0 8, r.berths.extractLsb' 8 8, r.berths.extractLsb' 16 8, r.berths.extractLsb' 24 8,
        r.berths.extractLsb' 32 8, u8 r.repeats, r.card.getD 0]
    let active := fun r : Announcement =>
      host r ++ [yes r.played, yes r.awaitingStart, u8 r.currentRepeat, phase r.phase] ++ two r.framesPlayed ++
        two r.gapLeft ++ two r.liveSeconds ++ two r.liveFrames ++ [yes r.endDue, yes r.withdrawn]
    let stacked := fun r : Announcement =>
      host r ++ [yes r.played, u8 r.currentRepeat, phase r.phase] ++ two r.gapLeft ++ two r.liveSeconds ++
        [yes r.endDue, yes r.withdrawn]
    let fe : LinkFrame := { kind := 0x21, serial := serial, payload := [id] }
    let fw : LinkFrame := { kind := 0x22, serial := serial, payload := [id] }
    let fl : LinkFrame := { kind := 0x23, serial := serial, payload := [] }
    ((∀ r ∈ s.voice.records, r.id ≠ id) →
      exec (.annEnd serial id) s = .next (s.answered fe (refuse .notFound)) ∧
      exec (.annWithdraw serial id) s = .next (s.answered fw (refuse .notFound))) ∧
    ((∀ a, s.voice.active = some a → a.id ≠ id) → (∃ r ∈ s.voice.records, r.id = id) →
      exec (.annEnd serial id) s = .next (s.answered fe (refuse .wrongState))) ∧
    (∀ a, s.voice.active = some a → a.id = id →
      (a.withdrawn = true →
        exec (.annEnd serial id) s = .next (s.answered fe (refuse .wrongState)) ∧
        exec (.annWithdraw serial id) s = .next (s.answered fw (refuse .wrongState))) ∧
      (a.withdrawn = false →
        exec (.annWithdraw serial id) s =
          .next (State.answered (setVoice (fun v => { v with active := some { a with withdrawn := true } }) s) fw
            (okReply [])) ∧
        (∀ c, a.origin = .clip c → a.phase = .playing →
          exec (.annEnd serial id) s =
            .next (State.answered (setVoice (fun v => { v with
              active := some { a with repeats := a.currentRepeat } }) s) fe (okReply []))) ∧
        ((∃ m, a.origin = .mic m) ∨ a.phase = .gap →
          exec (.annEnd serial id) s =
            .next (State.answered (setVoice (fun v => { v with active := some { a with endDue := true } }) s) fe
              (okReply []))))) ∧
    ((∀ a, s.voice.active = some a → a.id ≠ id) → ∀ below above r, s.voice.stack = above ++ r :: below → r.id = id →
      (∀ x ∈ above ++ below, x.id ≠ id) →
      exec (.annWithdraw serial id) s =
        if r.withdrawn then .next (s.answered fw (refuse .wrongState))
        else .next (State.answered (setVoice (fun v => { v with
          stack := above ++ { r with withdrawn := true } :: below }) s) fw (okReply []))) ∧
    ((∀ a, s.voice.active = some a → a.id ≠ id) → (∀ x ∈ s.voice.stack, x.id ≠ id) →
      ∀ ahead behind r, s.voice.waiting = ahead ++ r :: behind → r.id = id → (∀ x ∈ ahead ++ behind, x.id ≠ id) →
      exec (.annWithdraw serial id) s =
        .next (State.answered (queueNotice (.annEnded id .withdrawn)
          (setVoice (fun v => { v with waiting := ahead ++ behind }) s)) fw (okReply []))) ∧
    exec (.annList serial) s =
      .next (s.answered fl (okReply
        ([yes s.voice.active.isSome, yes (s.emergency.latch && s.voice.active.isSome)] ++
          (match s.voice.active with | none => [] | some r => active r) ++
          [u8 s.voice.stack.length] ++ (s.voice.stack.reverse.map stacked).flatten ++
          [u8 s.voice.waiting.length] ++ (s.voice.waiting.map host).flatten)))

/-- REPEAT_END (R48, R50), GAP_END (R49) and LIVE_TIMEOUT (R52) of the record that plays: an end that is due comes first
(R53, R54, step 1 of R57), and a channel that has freed is filled by reselection. Of any other channel they change
nothing. That these happen as commands of their own, that the frame in progress is accounted again at the next lane
frame start, and that readers begun here start at position 0 between two lane frame starts, so that the next one moves them
to output 48 before any of their samples is heard, where R83 starts a reader at a lane frame start, is the model's choice
(notes/assumptions/2.md). -/
def Obligations.ProgressEventsAct : Prop :=
  ∀ s : State, LinkQuiet s →
    ((s.voice.active = none ∨ s.voice.frozenFrame = true ∨ ∃ a, s.voice.active = some a ∧ a.awaitingStart = true) →
      exec .repeatEnd s = .next s.sent ∧ exec .gapEnd s = .next s.sent ∧ exec .liveTimeout s = .next s.sent) ∧
    (∀ a, s.voice.active = some a → a.awaitingStart = false → s.voice.frozenFrame = false →
      let ended := fun reason : EndReason => (reselect (queueNotice (.annEnded a.id reason)
        (setVoice (fun v => { v with active := none, readers := [] }) s))).sent
      let due := a.withdrawn = true ∨ a.endDue = true
      let dueReason := if a.withdrawn then EndReason.withdrawn else EndReason.done
      (∀ c, a.origin = .clip c → a.phase = .playing →
        exec .gapEnd s = .next s.sent ∧ exec .liveTimeout s = .next s.sent ∧
        (due → exec .repeatEnd s = .next (ended dueReason)) ∧
        (¬ due → a.repeats ≤ a.currentRepeat → exec .repeatEnd s = .next (ended .done)) ∧
        (¬ due → a.currentRepeat < a.repeats → 0 < s.settings.repeatGap →
          exec .repeatEnd s = .next (setVoice (fun v => { v with
            active := some { a with phase := .gap, gapLeft := s.settings.repeatGap,
                                    framesPlayed := repeatLength s.voice.readers,
                                    currentRepeat := a.currentRepeat + 1 },
            readers := [] }) s).sent) ∧
        (¬ due → a.currentRepeat < a.repeats → s.settings.repeatGap = 0 →
          exec .repeatEnd s = .next (setVoice (fun v => { v with
            active := some { a with framesPlayed := 0, currentRepeat := a.currentRepeat + 1 },
            readers := newReaders s.clips c }) s).sent)) ∧
      (∀ c, a.origin = .clip c → a.phase = .gap →
        exec .repeatEnd s = .next s.sent ∧ exec .liveTimeout s = .next s.sent ∧
        (due → exec .gapEnd s = .next (ended dueReason)) ∧
        (¬ due → exec .gapEnd s = .next (setVoice (fun v => { v with
          active := some { a with phase := .playing, framesPlayed := 0, gapLeft := 0 },
          readers := newReaders s.clips c }) s).sent)) ∧
      (∀ m, a.origin = .mic m →
        exec .repeatEnd s = .next s.sent ∧ exec .gapEnd s = .next s.sent ∧
        (due → exec .liveTimeout s = .next (ended dueReason)) ∧
        (¬ due → exec .liveTimeout s = .next (ended .timeout))))

/-- Reselection of a freed channel (R46), with the re-arming of R43 after each pop, and the preemption check (R44). -/
def Obligations.ReselectionFillsChannel : Prop :=
  (∀ s : State, s.voice.active = none →
    let awaits := fun (r : Announcement) => some { r with awaitingStart := true }
    let popped := fun (below : List Announcement) => { s with voice := { s.voice with
      stack := below,
      stackLimitArmed := s.voice.stackLimitArmed || decide (below.length < s.settings.depthLimit) } }
    (s.voice.waiting = [] → s.voice.stack = [] → reselect s = s) ∧
    (∀ head rest, s.voice.waiting = head :: rest →
      (∀ top below, s.voice.stack = top :: below → top.cls.rank < head.cls.rank) →
      reselect s = { s with voice := { s.voice with active := awaits head, waiting := rest, readers := [] } }) ∧
    (∀ top below, s.voice.stack = top :: below →
      (∀ head rest, s.voice.waiting = head :: rest → head.cls.rank ≤ top.cls.rank) →
      (top.withdrawn = true →
        reselect s = reselect (queueNotice (.annEnded top.id .withdrawn) (popped below))) ∧
      (top.withdrawn = false → top.endDue = true →
        reselect s = reselect (queueNotice (.annEnded top.id .done) (popped below))) ∧
      (top.withdrawn = false → top.endDue = false →
        reselect s = setVoice (fun v => { v with active := awaits top, readers := [] }) (popped below)))) ∧
  (∀ s : State,
    (s.voice.waiting = [] → preemptionCheck s = s) ∧
    (∀ head rest, s.voice.waiting = head :: rest →
      (s.voice.active = none → preemptionCheck s = { s with voice := { s.voice with
        active := some { head with awaitingStart := true }, waiting := rest, readers := [] } }) ∧
      (∀ a, s.voice.active = some a →
        (a.cls.rank < head.cls.rank → s.voice.stack.length < s.settings.depthLimit →
          preemptionCheck s = { s with voice := { s.voice with
            active := some { head with awaitingStart := true }, stack := a :: s.voice.stack,
            waiting := rest, readers := [] } }) ∧
        (head.cls.rank ≤ a.cls.rank ∨ s.settings.depthLimit ≤ s.voice.stack.length → preemptionCheck s = s))))

/-- The voice channel at a lane frame start, in the order of R57. The collected microphone samples become the held ones,
filled up with 0 (R51). Step 1: a due end (R53, R54). Step 2: the account of the frame just ended, by R48 for a clip in
PLAYING, R49 in GAP and R52 for a live record. Step 3: reselection of a freed channel (R46). These give m, of the voice
channel as the frame start finds it, with a link that holds what the blocks before it have queued. Step 4: with the latch
clear, a frozen channel thaws and its pending head is checked (R62), and an active record that awaits its start starts,
with its played flag and its ANN_STARTED notice (R45). Step 5: coverage is that of the started active record less the
lane test set, and none while the latch is set (R58); a frozen record that is not due to end keeps every count, its
readers and its place (R60). The readers of a repeat are those of the READY variants (R47), and the repeat is the least
number of frames that holds the longest (R48). -/
def Obligations.FrameStartRunsVoice : Prop :=
  (∀ (s : State) (line : Line), exec (.laneFrameStart line) s = .next (settle (frameBegun line false s)) ∧
    ∀ strobe : Bool,
      let t := frameBegun line strobe s
      (∀ k < 48, t.voice.heldA[k]? = some (s.voice.collectingA.getD k 0) ∧
        t.voice.heldB[k]? = some (s.voice.collectingB.getD k 0)) ∧
      t.voice.heldA.length = 48 ∧ t.voice.heldB.length = 48 ∧
      t.voice.collectingA = [] ∧ t.voice.collectingB = [] ∧
      t.voice.frozenFrame = t.emergency.latch ∧
      (t.emergency.latch = false → ∀ r, t.voice.active = some r → r.awaitingStart = false) ∧
      (∀ b : Berth, (coveredBy t.voice b).isSome =
        (!t.emergency.latch && t.voice.active.isSome && !inSet t.test.frameSet b &&
          t.voice.active.any fun r => inSet r.berths b)) ∧
      (∀ b c, coveredBy t.voice b = some c → ∃ r, t.voice.active = some r ∧ c.id = r.id ∧ c.cls = r.cls ∧
        c.card = r.card) ∧
      (t.emergency.latch = true → s.voice.frozenFrame = true → ∀ a, s.voice.active = some a →
        a.withdrawn = false → a.endDue = false →
        t.voice.active = some a ∧ t.voice.readers = s.voice.readers ∧ t.voice.stack = s.voice.stack ∧
          t.voice.waiting = s.voice.waiting) ∧
      ∃ (l : Link) (m u : State),
        let held := fun xs : List Sample => (List.range 48).map fun k => xs.getD k 0
        let begins : State := { s with
          link := l,
          voice := { s.voice with
            heldA := held s.voice.collectingA, heldB := held s.voice.collectingB, collectingA := [],
            collectingB := [] } }
        let ended := fun (r : Announcement) (reason : EndReason) =>
          reselect (queueNotice (.annEnded r.id reason)
            (setVoice (fun v => { v with active := none, readers := [] }) begins))
        let goesOn := fun (r : Announcement) (readers : List Reader) =>
          setVoice (fun v => { v with active := some r, readers := readers }) begins
        let restarted := fun (r : Announcement) (x : State) =>
          match r.origin, r.phase with
          | .clip c, .playing => setVoice (fun v => { v with
              active := some { r with framesPlayed := 0 }, readers := newReaders x.clips c }) x
          | _, _ => setVoice (fun v => { v with active := some r }) x
        let thawed := fun x : State =>
          match x.voice.active with
          | none => x
          | some r => if r.awaitingStart then x else restarted r x
        let started := fun x : State =>
          match x.voice.active with
          | none => x
          | some r =>
            if r.awaitingStart then
              queueNotice (.annStarted r.id r.played) (restarted { r with awaitingStart := false, played := true } x)
            else x
        (∀ n, s.link.notices.count n ≤ l.notices.count n) ∧
        (∀ id resumed, l.notices.count (.annStarted id resumed) = s.link.notices.count (.annStarted id resumed)) ∧
        (∀ id reason, l.notices.count (.annEnded id reason) = s.link.notices.count (.annEnded id reason)) ∧
        (s.voice.active = none → m = begins) ∧
        (∀ r, s.voice.active = some r →
          (r.withdrawn = true → m = ended r .withdrawn) ∧
          (r.withdrawn = false → r.endDue = true → m = ended r .done) ∧
          (r.withdrawn = false → r.endDue = false →
            (r.awaitingStart = true ∨ s.voice.frozenFrame = true → m = begins) ∧
            (r.awaitingStart = false → s.voice.frozenFrame = false →
              (∀ c, r.origin = .clip c → r.phase = .playing →
                let played := r.framesPlayed + 1
                (played < repeatLength s.voice.readers →
                  m = goesOn { r with framesPlayed := played } (s.voice.readers.map fun x =>
                    { x with position := min (x.position + 48) (2 * x.samples) })) ∧
                (repeatLength s.voice.readers ≤ played →
                  (r.repeats ≤ r.currentRepeat → m = ended r .done) ∧
                  (r.currentRepeat < r.repeats → 0 < s.settings.repeatGap →
                    m = goesOn { r with framesPlayed := played, phase := .gap, gapLeft := s.settings.repeatGap,
                                        currentRepeat := r.currentRepeat + 1 } []) ∧
                  (r.currentRepeat < r.repeats → s.settings.repeatGap = 0 →
                    m = goesOn { r with framesPlayed := 0, currentRepeat := r.currentRepeat + 1 }
                      (newReaders s.clips c)))) ∧
              (∀ c, r.origin = .clip c → r.phase = .gap →
                (1 < r.gapLeft → m = goesOn { r with gapLeft := r.gapLeft - 1 } s.voice.readers) ∧
                (r.gapLeft ≤ 1 →
                  m = goesOn { r with phase := .playing, framesPlayed := 0, gapLeft := 0 } (newReaders s.clips c))) ∧
              (∀ mic, r.origin = .mic mic →
                (r.liveFrames < 999 → m = goesOn { r with liveFrames := r.liveFrames + 1 } s.voice.readers) ∧
                (999 ≤ r.liveFrames → r.liveSeconds + 1 < s.settings.liveLimit →
                  m = goesOn { r with liveFrames := 0, liveSeconds := r.liveSeconds + 1 } s.voice.readers) ∧
                (999 ≤ r.liveFrames → s.settings.liveLimit ≤ r.liveSeconds + 1 → m = ended r .timeout))))) ∧
        u = (if t.emergency.latch then m
          else if s.voice.frozenFrame then started (preemptionCheck (thawed m)) else started m) ∧
        t.voice = { u.voice with coverage := t.voice.coverage, frozenFrame := t.emergency.latch } ∧
        t.link.notices = u.link.notices ∧ t.link.dropped = u.link.dropped) ∧
  (∀ (k : Clips) (c : ClipNo) (x : Reader), x ∈ newReaders k c ↔
    (k.variant c x.variant).state = .ready ∧
      x = { clip := c, variant := x.variant, samples := (k.variant c x.variant).declared, position := 0 }) ∧
  (∀ rs : List Reader, (∀ x ∈ rs, x.samples ≤ 24 * repeatLength rs) ∧
    ∀ n, (∀ x ∈ rs, x.samples ≤ 24 * n) → repeatLength rs ≤ n)

/-! ## Clip store (chapter 4) -/

/-- CLIP_OPEN (R67, R71, R72): the checks in their order; an accepted request takes the lowest-numbered free blocks
in ascending order, as many as the count needs, and replies with the chain length and the blocks left. -/
def Obligations.ClipOpenAllocates : Prop :=
  ∀ (s : State) (serial clip variant : Byte) (count : BitVec 32), LinkReady s →
    let f : LinkFrame := { kind := 0x28, serial := serial, payload := [clip, variant] ++ be32 count }
    let run := exec (.clipOpen serial clip variant count) s
    let k := (count.toNat + 2047) / 2048
    (clip.toNat < 1 ∨ 64 < clip.toNat ∨ 3 < variant.toNat ∨ count.toNat < 1 ∨ 1048576 < count.toNat →
      run = .next (s.answered f (refuse .badField))) ∧
    (∀ (c : ClipNo) (v : Fin 4), clip.toNat = c.val + 1 → variant.toNat = v.val → 1 ≤ count.toNat →
      count.toNat ≤ 1048576 →
      ((s.clips.variant c v).state ≠ .empty → run = .next (s.answered f (refuse .exists))) ∧
      ((s.clips.variant c v).state = .empty → s.clips.free.length < k →
        run = .next (s.answered f (refuse .noSpace))) ∧
      ((s.clips.variant c v).state = .empty → k ≤ s.clips.free.length →
        ∃ t : State,
          t = { s with clips := t.clips } ∧ t.clips.mem = s.clips.mem ∧
          t.clips.variant c v =
            { state := .loading, declared := count.toNat, chain := s.clips.free.take k, written := 0 } ∧
          (∀ c' v', (c', v') ≠ (c, v) → t.clips.variant c' v' = s.clips.variant c' v') ∧
          t.clips.free = s.clips.free.drop k ∧
          run = .next (t.answered f (okReply (u16 k ++ u16 (s.clips.free.length - k))))))

/-- CLIP_DATA (R73 to R75): the checks in their order; an accepted request stores its samples at the places of R73
and no other byte of clip memory changes, next expected offset gains the count, and the variant is READY when that
reaches the declared samples. -/
def Obligations.ClipDataStores : Prop :=
  ∀ (s : State) (serial clip variant : Byte) (offset : BitVec 32) (count : BitVec 16) (samples : List Sample),
    LinkReady s → samples.length = count.toNat →
    let f : LinkFrame :=
      { kind := 0x29, serial := serial,
        payload := [clip, variant] ++ be32 offset ++ be16 count ++ (samples.map be16).flatten }
    let run := exec (.clipData serial clip variant offset count samples) s
    (clip.toNat < 1 ∨ 64 < clip.toNat ∨ 3 < variant.toNat ∨ count.toNat < 1 ∨ 480 < count.toNat →
      run = .next (s.answered f (refuse .badField))) ∧
    (∀ (c : ClipNo) (v : Fin 4), clip.toNat = c.val + 1 → variant.toNat = v.val → 1 ≤ count.toNat →
      count.toNat ≤ 480 →
      let x := s.clips.variant c v
      (x.state ≠ .loading → run = .next (s.answered f (refuse .wrongState))) ∧
      (x.state = .loading → offset.toNat ≠ x.written → run = .next (s.answered f (refuse .outOfOrder))) ∧
      (x.state = .loading → offset.toNat = x.written → x.declared < x.written + count.toNat →
        run = .next (s.answered f (refuse .badField))) ∧
      (x.state = .loading → offset.toNat = x.written → x.written + count.toNat ≤ x.declared →
        Memory.wf s.clips.mem = true → x.chain.Nodup → x.declared ≤ 2048 * x.chain.length →
        ∃ t : State,
          t = { s with clips := t.clips } ∧ t.clips.free = s.clips.free ∧
          (∀ c' v', (c', v') ≠ (c, v) → t.clips.variant c' v' = s.clips.variant c' v') ∧
          t.clips.variant c v = { x with
            written := x.written + count.toNat,
            state := if x.written + count.toNat = x.declared then .ready else .loading } ∧
          (∀ k < count.toNat, t.clips.sample x (x.written + k) = samples.getD k 0) ∧
          (∀ a, (∀ k < count.toNat, a ≠ sampleAddress x.chain (x.written + k) ∧
              a ≠ sampleAddress x.chain (x.written + k) + 1) →
            Memory.read t.clips.mem a = Memory.read s.clips.mem a) ∧
          run = .next (t.answered f (okReply (u32 (x.written + count.toNat))))))

/-- CLIP_ABORT (R76, R77): BAD_FIELD outside the ranges; a LOADING variant is freed, its blocks return to the free
set and the reply carries the blocks then free; an EMPTY or READY variant is refused and nothing changes. -/
def Obligations.ClipAbortFrees : Prop :=
  ∀ (s : State) (serial clip variant : Byte), LinkReady s →
    let f : LinkFrame := { kind := 0x2A, serial := serial, payload := [clip, variant] }
    let run := exec (.clipAbort serial clip variant) s
    (clip.toNat < 1 ∨ 64 < clip.toNat ∨ 3 < variant.toNat → run = .next (s.answered f (refuse .badField))) ∧
    (∀ (c : ClipNo) (v : Fin 4), clip.toNat = c.val + 1 → variant.toNat = v.val →
      ((s.clips.variant c v).state ≠ .loading → run = .next (s.answered f (refuse .wrongState))) ∧
      ((s.clips.variant c v).state = .loading →
        ∃ t : State,
          t = { s with clips := t.clips } ∧ t.clips.mem = s.clips.mem ∧
          t.clips.variant c v = { state := .empty, declared := 0, chain := [], written := 0 } ∧
          (∀ c' v', (c', v') ≠ (c, v) → t.clips.variant c' v' = s.clips.variant c' v') ∧
          (∀ n, n ∈ t.clips.free ↔ n ∈ s.clips.free ∨ n ∈ (s.clips.variant c v).chain) ∧
          run = .next (t.answered f (okReply (u16 t.clips.free.length)))))

/-- CLIP_DELETE (R78) and CLIP_INFO (R80): a clip that a record holds is refused with IN_USE; otherwise each of its
variants that is not EMPTY is freed, and no other variant and no byte of memory changes. CLIP_INFO reports item by
item and changes nothing. -/
def Obligations.ClipDeleteAndInfo : Prop :=
  ∀ (s : State) (serial clip : Byte), LinkReady s →
    let fd : LinkFrame := { kind := 0x2B, serial := serial, payload := [clip] }
    let fi : LinkFrame := { kind := 0x2C, serial := serial, payload := [clip] }
    (clip.toNat < 1 ∨ 64 < clip.toNat →
      exec (.clipDelete serial clip) s = .next (s.answered fd (refuse .badField)) ∧
      exec (.clipInfo serial clip) s = .next (s.answered fi (refuse .badField))) ∧
    (∀ c : ClipNo, clip.toNat = c.val + 1 →
      ((∃ r ∈ s.voice.records, r.origin = .clip c) →
        exec (.clipDelete serial clip) s = .next (s.answered fd (refuse .inUse))) ∧
      ((∀ r ∈ s.voice.records, r.origin ≠ .clip c) →
        ∃ t : State,
          t = { s with clips := t.clips } ∧ t.clips.mem = s.clips.mem ∧
          (∀ v, (t.clips.variant c v) =
            if (s.clips.variant c v).state = .empty then s.clips.variant c v
            else { state := .empty, declared := 0, chain := [], written := 0 }) ∧
          (∀ c' v, c' ≠ c → t.clips.variant c' v = s.clips.variant c' v) ∧
          (∀ n, n ∈ t.clips.free ↔ n ∈ s.clips.free ∨
            ∃ v, (s.clips.variant c v).state ≠ .empty ∧ n ∈ (s.clips.variant c v).chain) ∧
          exec (.clipDelete serial clip) s = .next (t.answered fd (okReply (u16 t.clips.free.length)))) ∧
      exec (.clipInfo serial clip) s = .next (s.answered fi (okReply
        ([flag (s.voice.records.any fun r => r.origin == .clip c)] ++
          [(s.clips.variant c 0).state.code, (s.clips.variant c 1).state.code, (s.clips.variant c 2).state.code,
            (s.clips.variant c 3).state.code] ++
          (u32 (s.clips.variant c 0).declared ++ u32 (s.clips.variant c 1).declared ++
            u32 (s.clips.variant c 2).declared ++ u32 (s.clips.variant c 3).declared) ++
          (u32 (s.clips.variant c 0).written ++ u32 (s.clips.variant c 1).written ++
            u32 (s.clips.variant c 2).written ++ u32 (s.clips.variant c 3).written) ++
          (u16 (s.clips.variant c 0).chain.length ++ u16 (s.clips.variant c 1).chain.length ++
            u16 (s.clips.variant c 2).chain.length ++ u16 (s.clips.variant c 3).chain.length) ++
          u16 s.clips.free.length))))

/-- A reader's output at 48 kHz (R82, R83): pair k is stored sample k and the midpoint to the one after it rounded
down, the sample after the last being 0; nothing but 0 follows the last pair. -/
def Obligations.ReaderInterpolates : Prop :=
  ∀ (c : Clips) (r : Reader),
    let stored := fun k : Nat => (c.sample (c.variant r.clip r.variant) k).toInt
    (∀ k, k < r.samples → (r.outputAt c (2 * k)).toInt = stored k) ∧
    (∀ k, k + 1 < r.samples → (r.outputAt c (2 * k + 1)).toInt = (stored k + stored (k + 1)) / 2) ∧
    (∀ k, k + 1 = r.samples → (r.outputAt c (2 * k + 1)).toInt = stored k / 2) ∧
    (∀ q, 2 * r.samples ≤ q → r.outputAt c q = 0) ∧
    (∀ j < 48, (r.frame c)[j]? = some (r.outputAt c (r.position + j)))

/-! ## Berth mixer (chapter 5) -/

/-- CURVE_SET of 16 values and CURVE_GET (R88): each value is clamped to 32767, the curve is replaced as a whole,
and the reply carries the 16 entries.
At a lane frame start (R87): the saturation mark of the frame just ended is accounted in SAT (R101); the peak period
gains a frame, the first after a reset excepted, and at its 1000th every level is the number of significant bits of its
running peak, which starts again at 0 and then takes in the headphone samples of the frame (R102); and the gains in force
of every berth are formed from the values that their owners hold for the frame (R89 to R91, R94, R97). -/
def Obligations.GainsFollowCurve : Prop :=
  (∀ (s : State) (serial : Byte), LinkReady s →
     (∀ values : List (BitVec 16), values.length = 16 →
       ∃ curve : Vector Nat 16,
         (∀ i : Fin 16, curve[i] = min (values.getD i.val 0).toNat 32767) ∧
         exec (.curveSet serial values) s =
           .next (State.answered { s with mixer := { s.mixer with curve := curve } }
             { kind := 0x05, serial := serial, payload := (values.map be16).flatten }
             (okReply ((values.map fun v => u16 (min v.toNat 32767)).flatten)))) ∧
     exec (.curveGet serial) s =
       .next (s.answered { kind := 0x06, serial := serial, payload := [] }
         (okReply ((s.mixer.curve.toList.map u16).flatten)))) ∧
  (∀ (s : State) (line : Line), exec (.laneFrameStart line) s = .next (settle (frameBegun line false s)) ∧
     ∀ strobe : Bool,
       let t := frameBegun line strobe s
       let ends := s.mixer.frameOpen = true ∧ 1000 ≤ s.mixer.periodFrames + 1
       t.mixer.curve = s.mixer.curve ∧ t.mixer.frameOpen = true ∧
       (s.mixer.frameOpen = false → t.mixer.periodFrames = s.mixer.periodFrames) ∧
       (s.mixer.frameOpen = true → s.mixer.periodFrames + 1 < 1000 →
         t.mixer.periodFrames = s.mixer.periodFrames + 1) ∧
       (ends → t.mixer.periodFrames = 0) ∧
       ∀ b : Berth,
         let x := s.mixer.berths[b]
         let y := t.mixer.berths[b]
         CountsAtFrame s t (.sat b) (if x.saturated then 1 else 0) ∧
         (¬ ends → y.peakLevel = x.peakLevel) ∧
         (ends → x.runningPeak = 0 → y.peakLevel = 0) ∧
         (ends → ∀ k < 15, 2 ^ k ≤ x.runningPeak → x.runningPeak < 2 ^ (k + 1) → y.peakLevel = k + 1) ∧
         y.runningPeak = y.output.headphones.foldl (fun m p =>
             max m (max (min p.1.toInt.natAbs 32767) (min p.2.toInt.natAbs 32767)))
           (if ends then 0 else x.runningPeak) ∧
         let g := y.gains
         let step := min t.berths[b].knob.accepted.val t.routes[b].active.cap.val
         let curve := t.mixer.curve.toList.getD step 0
         let capped := fun x : Nat => if t.clock.night then min x t.settings.nightCeiling else x
         let speaker := t.berths[b].headphone.accepted = false ∧ t.clock.night = false ∧ t.routes[b].active.speaker = true
         g.path = (if t.emergency.latch then .emergency else if inSet t.test.frameSet b then .test else .normal) ∧
         g.step = step ∧
         (coveredBy t.voice b = none →
           g.gp = capped curve ∧ g.ga = 0 ∧ g.gsa = 0 ∧ (speaker → g.gsp = g.gp) ∧ (¬ speaker → g.gsp = 0)) ∧
         (∀ c, coveredBy t.voice b = some c →
           g.gp = (capped curve * t.settings.duckFactor + 16384) / 32768 ∧
           g.ga = (match c.cls with
             | .stop => capped t.settings.stopGain
             | .service => capped t.settings.serviceGain
             | .crew => capped t.settings.crewGain
             | .safety => t.settings.safetyGain) ∧
           (speaker → g.gsp = g.gp ∧ g.gsa = g.ga) ∧
           (¬ speaker → g.gsp = 0 ∧ g.gsa = if c.cls = .safety then g.ga else 0)))

/-- One sample period on the NORMAL and on the TEST path (R95 to R98, R100): the exact sum rounded half upward by
32768 and clamped to the samples, and the clamping mark; on the TEST path the test word alone.
The outputs of every berth after a lane frame start (R87, R101, R103): each sample period mixes, with the gains in force,
the berth's programme pair, announcement sample, chime sample, held MIC_A sample and test word, and the saturation mark
is set when one of the outputs was clamped.
The announcement samples of a berth (R47, R49, R59): 0 when it is not covered and in a gap, the held samples of the live
record's microphone, else the frame of the reader of the berth's language, or of variant 0 where that has none. -/
def Obligations.MixIsRoundedAndClamped : Prop :=
  (∀ (g : Gains) (wake : Nat) (p : Sample × Sample) (a : Sample) (c : Int) (m w : Sample),
    let y := mixSample g wake p a c m w
    (g.path = .normal →
      let out := fun (x : Int) (gp ga : Nat) => (x * gp + a.toInt * ga + c * wake + 16384) / 32768
      let left := out p.1.toInt g.gp g.ga
      let right := out p.2.toInt g.gp g.ga
      let speaker := out ((p.1.toInt + p.2.toInt) / 2) g.gsp g.gsa
      let clamped := fun x : Int => max (-32768) (min 32767 x)
      y.left.toInt = clamped left ∧ y.right.toInt = clamped right ∧ y.speaker.toInt = clamped speaker ∧
      (y.clamped = true ↔ clamped left ≠ left ∨ clamped right ≠ right ∨ clamped speaker ≠ speaker)) ∧
    (g.path = .test → y = { left := w, right := 0, speaker := 0, clamped := false }) ∧
    (g.path = .emergency →
      y.left.toInt = (m.toInt * 32767 + 16384) / 32768 ∧ y.right = y.left ∧ y.speaker = y.left ∧ y.clamped = false)) ∧
  (∀ (s : State) (line : Line), exec (.laneFrameStart line) s = .next (settle (frameBegun line false s)) ∧
    ∀ (strobe : Bool) (b : Berth),
      let t := frameBegun line strobe s
      let x := t.mixer.berths[b]
      let y := fun k : Nat => mixSample x.gains t.settings.wakeGain (programmePair t b k)
        ((annSamples t.clips t.voice t.routes[b].active.language b).getD k 0) (chimeSample t.wake.entries b k)
        (t.voice.heldA.getD k 0) ((wordsFor t.test.words b).getD k 0)
      x.output.headphones.length = 48 ∧ x.output.speaker.length = 48 ∧
      (∀ k < 48, x.output.headphones[k]? = some ((y k).left, (y k).right) ∧
        x.output.speaker[k]? = some (y k).speaker) ∧
      (x.saturated = true ↔ ∃ k < 48, (y k).clamped = true)) ∧
  (∀ (c : Clips) (v : Voice) (language : Fin 4) (b : Berth),
    let a := annSamples c v language b
    (coveredBy v b = none ∨ v.active = none → a = List.replicate 48 0) ∧
    (∀ r, coveredBy v b ≠ none → v.active = some r →
      (r.origin = .mic .micA → a = v.heldA) ∧
      (r.origin = .mic .micB → a = v.heldB) ∧
      (∀ clip, r.origin = .clip clip → r.phase = .gap → a = List.replicate 48 0) ∧
      (∀ clip, r.origin = .clip clip → r.phase = .playing →
        let first := fun (n : Fin 4) (rd : Reader) => ∃ ahead behind, v.readers = ahead ++ rd :: behind ∧
          rd.variant = n ∧ ∀ x ∈ ahead, x.variant ≠ n
        (∀ rd, first language rd → a = rd.frame c) ∧
        ((∀ x ∈ v.readers, x.variant ≠ language) →
          (∀ rd, first 0 rd → a = rd.frame c) ∧
          ((∀ x ∈ v.readers, x.variant ≠ 0) → a = List.replicate 48 0)))))

/-- In every frame for which the latch is set, the three outputs of every berth are the held MIC_A sample scaled by
32767 and rounded (R94, R99, R103), the same on every berth, and no saturation mark is newly set. -/
def Obligations.EmergencyReachesEveryBerth : Prop :=
  ∀ (s : State) (line : Line), exec (.laneFrameStart line) s = .next (settle (frameBegun line false s)) ∧
    ∀ strobe : Bool,
      let t := frameBegun line strobe s
      t.emergency.latch = true →
        ∀ b : Berth, t.mixer.berths[b].gains.path = .emergency ∧ t.mixer.berths[b].saturated = false ∧
          t.mixer.berths[b].output.headphones.length = 48 ∧ t.mixer.berths[b].output.speaker.length = 48 ∧
          ∀ k < 48, ∃ x : Sample,
            x.toInt = ((s.voice.collectingA.getD k 0).toInt * 32767 + 16384) / 32768 ∧
            t.mixer.berths[b].output.headphones[k]? = some (x, x) ∧
            t.mixer.berths[b].output.speaker[k]? = some x

/-! ## Emergency line (chapter 6) -/

/-- EMERGENCY_CLEAR (R109): LINE_ACTIVE while the accepted line is ASSERTED, else WRONG_STATE with the latch clear,
else the clear waits for the next lane frame start and the reply is OK.
The alarm filter and the latch at a lane frame start (R106, R108) with the LATCHED and CLEARED notices queued there and
no other (R110). The event ALARM_ACCEPTED is the sample that brings the candidate's run to the filter count
(notes/assumptions/2.md), with its notice; a run that it does not bring there is not accepted, and nothing changes. -/
def Obligations.EmergencyLineActs : Prop :=
  (∀ (s : State) (serial : Byte), LinkReady s →
     let f : LinkFrame := { kind := 0x3A, serial := serial, payload := [] }
     (s.emergency.accepted = .asserted →
       exec (.emergencyClear serial) s = .next (s.answered f (refuse .lineActive))) ∧
     (s.emergency.accepted = .released → s.emergency.latch = false →
       exec (.emergencyClear serial) s = .next (s.answered f (refuse .wrongState))) ∧
     (s.emergency.accepted = .released → s.emergency.latch = true →
       exec (.emergencyClear serial) s =
         .next (State.answered { s with emergency := { s.emergency with clearPending := true } } f (okReply [])))) ∧
  (∀ (s : State) (line : Line), exec (.laneFrameStart line) s = .next (settle (frameBegun line false s)) ∧
     ∀ strobe : Bool,
       let t := frameBegun line strobe s
       let e := s.emergency
       let run := if line = e.candidate then min (e.runCount + 1) 100 else 1
       let accepts := line ≠ e.accepted ∧ s.settings.alarmFilter ≤ run
       let alarm := accepts ∧ line = .asserted
       let latches := alarm ∧ (e.latch = false ∨ e.clearPending = true)
       let clears := e.clearPending = true ∧ ¬ alarm
       t.emergency.candidate = line ∧ t.emergency.runCount = run ∧
       t.emergency.accepted = (if accepts then line else e.accepted) ∧
       t.emergency.clearPending = false ∧
       t.emergency.latch = (if alarm then true else if e.clearPending then false else e.latch) ∧
       (latches → Reports s t (.emergency .latched .asserted)) ∧
       (clears → Reports s t (.emergency .cleared t.emergency.accepted)) ∧
       (∀ event at', ¬ (latches ∧ event = .latched ∧ at' = .asserted) →
         ¬ (clears ∧ event = .cleared ∧ at' = t.emergency.accepted) → KeepsCount s t (.emergency event at'))) ∧
  (∀ s : State, LinkQuiet s →
     let e := s.emergency
     let run := min (e.runCount + 1) 100
     let reaches := s.settings.alarmFilter ≤ run
     (e.candidate = e.accepted ∨ ¬ reaches → exec .alarmAccepted s = .next s.sent) ∧
     (reaches → e.candidate = .asserted → e.accepted = .released → e.latch = false ∨ e.clearPending = true →
       exec .alarmAccepted s = .next (queueNotice (.emergency .latched .asserted)
         { s with emergency :=
           { e with runCount := run, accepted := .asserted, latch := true, clearPending := false } }).sent) ∧
     (reaches → e.candidate = .asserted → e.accepted = .released → e.latch = true → e.clearPending = false →
       exec .alarmAccepted s =
         .next (State.sent { s with emergency := { e with runCount := run, accepted := .asserted } })) ∧
     (reaches → e.candidate = .released → e.accepted = .asserted → e.clearPending = false →
       exec .alarmAccepted s =
         .next (State.sent { s with emergency := { e with runCount := run, accepted := .released } })) ∧
     (reaches → e.candidate = .released → e.accepted = .asserted → e.clearPending = true →
       exec .alarmAccepted s = .next (queueNotice (.emergency .cleared .released)
         { s with emergency :=
           { e with runCount := run, accepted := .released, latch := false, clearPending := false } }).sent))

/-! ## Journey clock (chapter 7) -/

/-- CLOCK_SET (R118, R121, R135) and CLOCK_GET (R120): BAD_FIELD outside the ranges; otherwise the fields are set,
the frame count and the hold become 0 and no, the night state is evaluated and every ARMED entry whose due minute
has come rings.
The night window (R121): from the start minute on and before the end minute, around midnight when the start
comes after the end, and never with both equal. -/
def Obligations.ClockRequestsAnswerAndNight : Prop :=
  (∀ (s : State) (serial day hour minute second : Byte), LinkReady s →
     let f : LinkFrame := { kind := 0x30, serial := serial, payload := [day, hour, minute, second] }
     (7 < day.toNat ∨ 23 < hour.toNat ∨ 59 < minute.toNat ∨ 59 < second.toNat →
       exec (.clockSet serial day hour minute second) s = .next (s.answered f (refuse .badField))) ∧
     (day.toNat ≤ 7 → hour.toNat ≤ 23 → minute.toNat ≤ 59 → second.toNat ≤ 59 →
       let tod := hour.toNat * 60 + minute.toNat
       let m := day.toNat * 1440 + tod
       let night := inWindow s.settings.nightStart s.settings.nightEnd tod
       let due := fun e : WakeEntry => e.state = .armed ∧ e.due ≤ m
       exec (.clockSet serial day hour minute second) s =
         .next (State.answered
           (queueNotices ((s.wake.entries.filter fun e => decide (due e)).map fun e =>
               .wakeState e.berth e.stop .ringing .due 0)
             { s with
               clock := { isSet := true, day := day.toNat, hour := hour.toNat, minute := minute.toNat,
                          second := second.toNat, frameCount := 0, held := false, night := night },
               wake := { s.wake with entries := s.wake.entries.map fun e => if due e then
                 { e with state := .ringing, ringSeconds := 0, deferred := true, cycle := 0 } else e } })
           f (okReply [day, hour, minute, second, flag night]))) ∧
     exec (.clockGet serial) s =
       .next (s.answered { kind := 0x31, serial := serial, payload := [] }
         (okReply ([flag s.clock.isSet, flag s.clock.held, u8 s.clock.day, u8 s.clock.hour, u8 s.clock.minute,
           u8 s.clock.second] ++ u16 s.clock.frameCount ++
           u16 (s.clock.day * 1440 + s.clock.hour * 60 + s.clock.minute) ++ [flag s.clock.night])))) ∧
  (∀ start stop t : Nat,
     (start < stop → (inWindow start stop t = true ↔ start ≤ t ∧ t < stop)) ∧
     (stop < start → (inWindow start stop t = true ↔ start ≤ t ∨ t < stop)) ∧
     (start = stop → inWindow start stop t = false) ∧
     (start ≤ 1439 → stop ≤ 1439 → ∃ u ≤ 1439, inWindow start stop u = false))

/-- The second tick (R115, R116, R124, R139): the fields advance with carries or the hold acts with its CLOCK_LIMIT
notice; RINGING entries count their second and meet the limit with a LIMIT notice each; when the seconds carry, the night
state and the wake list are evaluated (R122, R135), with a DUE notice for each entry that rings. SECOND_TICK is that, and
MINUTE_TICK the evaluation alone (notes/assumptions/2.md).
The clock at a lane frame start (R114): UNSET it stands still; SET it counts the frame, and the 1000th makes the
second tick, whose notices are queued. No other CLOCK_LIMIT or WAKE_STATE notice is queued at a lane frame start, and none
at one that makes no tick. -/
def Obligations.ClockTicks : Prop :=
  let ofClock := fun n : Notice =>
    (∃ day hour minute second journey, n = .clockLimit day hour minute second journey) ∨
    (∃ berth stop state reason ann, n = .wakeState berth stop state reason ann)
  (∀ s : State, s.clock.isSet = false →
     (LinkQuiet s → exec .secondTick s = .next s.sent ∧ exec .minuteTick s = .next s.sent) ∧
     ∀ line strobe,
       let t := frameBegun line strobe s
       t.clock = s.clock ∧ ∀ n, ofClock n → KeepsCount s t n) ∧
  (∀ s : State, s.clock.isSet = true →
     let c := s.clock
     let atLimit := c.day = 7 ∧ c.hour = 23 ∧ c.minute = 59 ∧ c.second = 59
     let carry := 60 ≤ c.second + 1 ∧ c.held = false ∧ ¬ atLimit
     let hour := if c.minute + 1 < 60 then c.hour else if c.hour + 1 < 24 then c.hour + 1 else 0
     let minute := if c.minute + 1 < 60 then c.minute + 1 else 0
     let clock : Clock :=
       if c.held then { c with frameCount := 0 }
       else if atLimit then { c with frameCount := 0, held := true }
       else if c.second + 1 < 60 then { c with frameCount := 0, second := c.second + 1 }
       else { c with
         frameCount := 0, second := 0, minute := minute, hour := hour,
         day := if c.minute + 1 < 60 ∨ c.hour + 1 < 24 then c.day else c.day + 1,
         night := inWindow s.settings.nightStart s.settings.nightEnd (hour * 60 + minute) }
     let now := clock.day * 1440 + clock.hour * 60 + clock.minute
     let counted := fun e : WakeEntry =>
       if e.state = .ringing ∧ e.deferred = false then { e with ringSeconds := e.ringSeconds + 1 } else e
     let spent := fun e : WakeEntry => e.state = .ringing ∧ s.settings.ringLimit ≤ e.ringSeconds
     let limited := fun e : WakeEntry =>
       if spent (counted e) then { counted e with state := .missed, deferred := false } else counted e
     let due := fun (m : Nat) (e : WakeEntry) => e.state = .armed ∧ e.due ≤ m
     let rung := fun (m : Nat) (e : WakeEntry) =>
       if due m e then { e with state := .ringing, ringSeconds := 0, deferred := true, cycle := 0 } else e
     let rings := fun (m : Nat) (es : List WakeEntry) =>
       (es.filter fun e => decide (due m e)).map fun e => Notice.wakeState e.berth e.stop .ringing .due 0
     let notices :=
       (if c.held = false ∧ atLimit then [Notice.clockLimit 7 23 59 59 (7 * 1440 + 23 * 60 + 59)] else []) ++
       ((s.wake.entries.map counted).filter fun e => decide (spent e)).map
         (fun e => Notice.wakeState e.berth e.stop .missed .limit 0) ++
       (if carry then rings now (s.wake.entries.map limited) else [])
     secondTick s = queueNotices notices { s with
       clock := clock,
       wake := { s.wake with
         entries := if carry then (s.wake.entries.map limited).map (rung now) else s.wake.entries.map limited } } ∧
     (LinkQuiet s → exec .secondTick s = .next (secondTick s).sent) ∧
     (LinkQuiet s → c.held = true → exec .minuteTick s = .next s.sent) ∧
     (LinkQuiet s → c.held = false →
       let m := c.day * 1440 + c.hour * 60 + c.minute
       exec .minuteTick s = .next (State.sent (queueNotices (rings m s.wake.entries) { s with
         clock := { c with
           night := inWindow s.settings.nightStart s.settings.nightEnd (c.hour * 60 + c.minute) },
         wake := { s.wake with entries := s.wake.entries.map (rung m) } }))) ∧
     ∀ line strobe,
       let t := frameBegun line strobe s
       (c.frameCount + 1 < 1000 →
         t.clock = { c with frameCount := c.frameCount + 1 } ∧ ∀ n, ofClock n → KeepsCount s t n) ∧
       (1000 ≤ c.frameCount + 1 →
         t.clock = clock ∧ (∀ n ∈ notices, Reports s t n) ∧
         ∀ n, ofClock n → n ∉ notices → KeepsCount s t n)) ∧
  (∀ (s : State) (line : Line), exec (.laneFrameStart line) s = .next (settle (frameBegun line false s)))

/-! ## Stops and wake-ups (chapter 8) -/

/-- STOP_SET (R126, R131, R136): the checks; an accepted request makes the stop AHEAD with the ETA clamped to 11519,
recomputes the due minute of every entry of the stop, which take their places in the list again, and rings what is due,
with a DUE notice each in list order. The entries of other stops keep all but their ringing.
STOP_PASSED (R127), STOP_CLEAR (R128) and STOP_LIST (R129): the checks and their replies; a passed stop makes
its ARMED and RINGING entries MISSED with a notice each, in list order; a cleared stop loses its entries. -/
def Obligations.StopRequestsAct : Prop :=
  (∀ (s : State) (serial stop : Byte) (eta : BitVec 16) (nameClip : Byte), LinkReady s →
     let f : LinkFrame := { kind := 0x32, serial := serial, payload := [stop, highByte eta, lowByte eta, nameClip] }
     let run := exec (.stopSet serial stop eta nameClip) s
     (stop.toNat < 1 ∨ 24 < stop.toNat ∨ 64 < nameClip.toNat → run = .next (s.answered f (refuse .badField))) ∧
     (∀ (t : StopNo) (name : Option ClipNo), stop.toNat = t.val + 1 → clipField name = nameClip →
       (s.wake.stops[t].state = .passed → run = .next (s.answered f (refuse .wrongState))) ∧
       (s.wake.stops[t].state ≠ .passed →
         let e := min eta.toNat 11519
         let before := fun x y : WakeEntry => x.due < y.due ∨ (x.due = y.due ∧ x.berth < y.berth)
         let due := fun x : WakeEntry => s.clock.isSet = true ∧ x.state = .armed ∧ x.due ≤ s.clock.journeyMinute
         ∃ (revised : List WakeEntry) (u : State),
           revised.Perm (s.wake.entries.map fun y => if y.stop = t then { y with due := e - y.lead } else y) ∧
           ((s.wake.entries.map WakeEntry.berth).Nodup → s.wake.entries.Pairwise before → revised.Pairwise before) ∧
           { u with wake := s.wake, link := s.link } = s ∧
           u.link = (queueNotices ((revised.filter fun x => decide (due x)).map fun x =>
             .wakeState x.berth x.stop .ringing .due 0) s).link ∧
           (∀ k : StopNo, u.wake.stops[k] =
             if k = t then { state := .ahead, eta := e, nameClip := name } else s.wake.stops[k]) ∧
           u.wake.entries = (revised.map fun x => if due x then
             { x with state := .ringing, ringSeconds := 0, deferred := true, cycle := 0 } else x) ∧
           run = .next (u.answered f (okReply (u16 e)))))) ∧
  (∀ (s : State) (serial stop : Byte), LinkReady s →
     let fp : LinkFrame := { kind := 0x33, serial := serial, payload := [stop] }
     let fc : LinkFrame := { kind := 0x34, serial := serial, payload := [stop] }
     let fl : LinkFrame := { kind := 0x35, serial := serial, payload := [] }
     (stop.toNat < 1 ∨ 24 < stop.toNat →
       exec (.stopPassed serial stop) s = .next (s.answered fp (refuse .badField)) ∧
       exec (.stopClear serial stop) s = .next (s.answered fc (refuse .badField))) ∧
     (∀ t : StopNo, stop.toNat = t.val + 1 →
       let live := fun e : WakeEntry => e.stop = t ∧ (e.state = .armed ∨ e.state = .ringing)
       (s.wake.stops[t].state ≠ .ahead →
         exec (.stopPassed serial stop) s = .next (s.answered fp (refuse .wrongState))) ∧
       (s.wake.stops[t].state = .ahead →
         exec (.stopPassed serial stop) s =
           .next (State.answered
             (queueNotices ((s.wake.entries.filter fun e => decide (live e)).map fun e =>
                 .wakeState e.berth e.stop .missed .passed 0)
               { s with wake :=
                 { stops := s.wake.stops.set t { s.wake.stops[t] with state := .passed },
                   entries := s.wake.entries.map fun e =>
                     if live e then { e with state := .missed, deferred := false } else e } }) fp (okReply []))) ∧
       ((∃ e ∈ s.wake.entries, live e) →
         exec (.stopClear serial stop) s = .next (s.answered fc (refuse .inUse))) ∧
       ((∀ e ∈ s.wake.entries, ¬ live e) →
         exec (.stopClear serial stop) s =
           .next (State.answered { s with wake :=
             { stops := s.wake.stops.set t { state := .unused, eta := 0, nameClip := none },
               entries := s.wake.entries.filter fun e => e.stop != t } } fc (okReply [])))) ∧
     exec (.stopList serial) s =
       .next (s.answered fl (okReply
         ((s.wake.stops.toList.map fun t => [t.state.code] ++ u16 t.eta ++ [clipField t.nameClip]).flatten))))

/-- WAKE_SET (R131, R132, R135): the checks; an accepted request replaces the berth's entry by an ARMED one with the
lead clamped to 5 to 60 and the due minute of R131, in its place in the list, after which what is due rings, with a DUE
notice each in list order; the reply carries the lead, the due minute and the new entry's state. -/
def Obligations.WakeSetBooks : Prop :=
  ∀ (s : State) (serial berth stop lead : Byte), LinkReady s →
    let f : LinkFrame := { kind := 0x36, serial := serial, payload := [berth, stop, lead] }
    let run := exec (.wakeSet serial berth stop lead) s
    (berth.toNat < 1 ∨ 40 < berth.toNat ∨ stop.toNat < 1 ∨ 24 < stop.toNat →
      run = .next (s.answered f (refuse .badField))) ∧
    (∀ (b : Berth) (t : StopNo), berth.toNat = b.val + 1 → stop.toNat = t.val + 1 →
      (s.wake.stops[t].state ≠ .ahead → run = .next (s.answered f (refuse .wrongState))) ∧
      (s.wake.stops[t].state = .ahead →
        let l := min 60 (max 5 lead.toNat)
        let due := s.wake.stops[t].eta - l
        let now := s.clock.isSet = true ∧ due ≤ s.clock.journeyMinute
        let before := fun x y : WakeEntry => x.due < y.due ∨ (x.due = y.due ∧ x.berth < y.berth)
        let rings := fun e : WakeEntry => s.clock.isSet = true ∧ e.state = .armed ∧ e.due ≤ s.clock.journeyMinute
        let new : WakeEntry := { berth := b, stop := t, lead := l, due := due, state := .armed, ringSeconds := 0,
                                 deferred := false, cycle := 0 }
        ∃ (booked : List WakeEntry) (u : State),
          booked.Perm (new :: s.wake.entries.filter fun y => decide (y.berth ≠ b)) ∧
          (s.wake.entries.Pairwise before → booked.Pairwise before) ∧
          { u with wake := s.wake, link := s.link } = s ∧ u.wake.stops = s.wake.stops ∧
          u.link = (queueNotices ((booked.filter fun x => decide (rings x)).map fun x =>
            .wakeState x.berth x.stop .ringing .due 0) s).link ∧
          u.wake.entries = (booked.map fun x => if rings x then
            { x with state := .ringing, ringSeconds := 0, deferred := true, cycle := 0 } else x) ∧
          (now → run = .next (u.answered f (okReply ([u8 l] ++ u16 due ++ [1])))) ∧
          (¬ now → run = .next (u.answered f (okReply ([u8 l] ++ u16 due ++ [0]))))))

/-- WAKE_CANCEL (R133) and WAKE_LIST (R134): BAD_FIELD outside 1 to 40, NOT_FOUND for a berth without an entry;
otherwise the entry is removed, whatever its state, without a notice. WAKE_LIST reports the entries in list order. -/
def Obligations.WakeRequestsAnswer : Prop :=
  ∀ (s : State) (serial berth : Byte), LinkReady s →
    let f : LinkFrame := { kind := 0x37, serial := serial, payload := [berth] }
    (berth.toNat < 1 ∨ 40 < berth.toNat →
      exec (.wakeCancel serial berth) s = .next (s.answered f (refuse .badField))) ∧
    (∀ b : Berth, berth.toNat = b.val + 1 →
      ((∀ e ∈ s.wake.entries, e.berth ≠ b) →
        exec (.wakeCancel serial berth) s = .next (s.answered f (refuse .notFound))) ∧
      ((∃ e ∈ s.wake.entries, e.berth = b) →
        exec (.wakeCancel serial berth) s =
          .next (State.answered { s with wake := { s.wake with
            entries := s.wake.entries.filter fun e => decide (e.berth ≠ b) } } f (okReply [])))) ∧
    exec (.wakeList serial) s =
      .next (s.answered { kind := 0x38, serial := serial, payload := [] }
        (okReply (u8 s.wake.entries.length :: (s.wake.entries.map fun e =>
          [number e.berth, number e.stop, u8 e.lead] ++ u16 e.due ++ [e.state.code] ++ u16 e.ringSeconds ++
            [flag e.deferred]).flatten)))

/-- Chimes at a lane frame start (R92, R137, R138, R140), after the second tick if one falls there: a RINGING entry is
deferred unless its berth is PRESENT, not covered, not under test and the latch is clear; its cycle starts at 0 with each
audible stretch and wraps after 999. The chime sample of a berth is the square wave of R92 in the first 400 frames of the
cycle of its RINGING entry while that is not deferred, and 0 otherwise; where it is not 0 the chime is audible. -/
def Obligations.FrameStartJudgesChimes : Prop :=
  (∀ (s : State) (line : Line), exec (.laneFrameStart line) s = .next (settle (frameBegun line false s)) ∧
    ∀ strobe : Bool,
      let t := frameBegun line strobe s
      let ticks := s.clock.isSet = true ∧ 1000 ≤ s.clock.frameCount + 1
      let entries := if ticks then (secondTick s).wake.entries else s.wake.entries
      let audible := fun b : Berth => t.berths[b].present = true ∧ coveredBy t.voice b = none ∧
        inSet t.test.frameSet b = false ∧ t.emergency.latch = false
      t.wake.stops = s.wake.stops ∧
      t.wake.entries = (entries.map fun e =>
        if e.state = .ringing then
          if audible e.berth then
            { e with deferred := false,
                     cycle := if e.deferred then 0 else if e.cycle = 999 then 0 else e.cycle + 1 }
          else { e with deferred := true, cycle := 0 }
        else e) ∧
      ∀ b k, chimeSample t.wake.entries b k ≠ 0 → audible b) ∧
  (∀ (es : List WakeEntry) (b : Berth) (k : Nat),
    ((∀ e ∈ es, e.berth ≠ b) → chimeSample es b k = 0) ∧
    ∀ e, es.find? (fun x => x.berth == b) = some e →
      chimeSample es b k =
        if e.state = .ringing ∧ e.deferred = false ∧ e.cycle < 400 then (if k < 24 then 8192 else -8192) else 0)

/-- A call press that is accepted (R64, R141, R144): without a RINGING entry it queues a CALL notice and changes no
entry; a RINGING entry becomes ACKED, and its WAKE_STATE notice carries the voice channel's answer; a record that cannot
be active joins the pending list by R38 (`Obligations.AnnouncePlacesRecord`). STATUS_FIELD_ACCEPTED of a pressed call
candidate leads to it (R160); that it accepts a candidate of any run and sets its run to 3 is the model's choice
(notes/assumptions/2.md). UPSTREAM_SLOT and BERTH_PRESENT lead to the same press
(`Obligations.UpstreamSlotIsJudged`, `Obligations.PresenceEventsAct`). -/
def Obligations.CallPressAcknowledges : Prop :=
  (∀ (s : State) (b : Berth), LinkQuiet s → s.berths[b].present = true → s.berths[b].call.candidate = some true →
    s.berths[b].call.accepted = false →
    exec (.statusFieldAccepted b .call) s =
      .next (callPress b (setBerth b (fun x => { x with call := { x.call with accepted := true, run := 3 } }) s)).sent) ∧
  (∀ (s : State) (b : Berth),
    ((∀ e, s.wake.entries.find? (fun e => e.berth == b) = some e → e.state ≠ .ringing) →
      callPress b s = queueNotice (.call b) s) ∧
    (∀ e, s.wake.entries.find? (fun e => e.berth == b) = some e → e.state = .ringing →
      let acked := setEntries (fun es => es.map fun x =>
        if x.berth = b then { x with state := .acked, deferred := false } else x) s
      let name := s.wake.stops[e.stop].nameClip
      let answers := fun (reason : WakeReason) (auto : Byte) (x : State) =>
        callPress b s = queueNotice (.wakeState e.berth e.stop .acked reason auto) x
      e.berth = b ∧
      ((∀ c, name = some c → (s.clips.variant c 0).state ≠ .ready) → answers .noClip 0 acked) ∧
      (∀ c, name = some c → (s.clips.variant c 0).state = .ready →
        ((∀ i : Byte, 240 ≤ i.toNat → ∃ r ∈ s.voice.records, r.id = i) → answers .noId 0 acked) ∧
        (∀ i : Byte, 240 ≤ i.toNat → (∀ r ∈ s.voice.records, r.id ≠ i) →
          (∀ j : Byte, 240 ≤ j.toNat → j.toNat < i.toNat → ∃ r ∈ s.voice.records, r.id = j) →
          let r : Announcement := { id := i, cls := .stop, origin := .clip c, berths := 1#40 <<< b.val, repeats := 1,
                                    card := none }
          (s.emergency.latch = false → s.voice.active = none →
            answers .announced i (setVoice (fun v => { v with
              active := some { r with awaitingStart := true }, readers := [] }) acked)) ∧
          (s.emergency.latch = true ∨ s.voice.active ≠ none → s.voice.waiting.length < 16 →
            answers .announced i (setVoice (fun v => { v with waiting := insertWaiting v.waiting r }) acked)) ∧
          (s.emergency.latch = true ∨ s.voice.active ≠ none → 16 ≤ s.voice.waiting.length →
            answers .queueFull 0 acked)))))

/-! ## Berth lanes (chapter 9) -/

/-- The frame timer (R146 to R149) at a lane frame start from the oscillator or, on PORT, from the strobe, with its
REFERENCE notice, reason LOST, when the strobe is absent and queued for nothing else; the strobe on LOCAL, REFERENCE_SET
and the event REFERENCE_LOST (notes/assumptions/2.md). R148 and R149 do not say which comes first at one lane frame start:
that a lost PORT reference queues its notice also when a request for LOCAL is carried out there, and that a request for PORT
which finds the strobe absent queues one, is the model's reading (notes/assumptions/24.md). -/
def Obligations.FrameTimerRuns : Prop :=
  (∀ (s : State) (line : Line),
    exec (.laneFrameStart line) s = .next (settle (frameBegun line false s)) ∧
    (s.timer.reference = .port → exec (.portFrameStrobe line) s = .next (settle (frameBegun line true s))) ∧
    ∀ strobe : Bool,
      let t := frameBegun line strobe s
      let age := if s.timer.strobeSeen = true ∨ strobe = true then 0 else min (s.timer.strobeAge + 1) 4
      let lost := 4 ≤ age ∧ (s.timer.reference = .port ∨ s.timer.requested = some .port)
      t.timer = {
        reference := if 4 ≤ age then .localOsc else s.timer.requested.getD s.timer.reference,
        requested := none, strobeAge := age, strobeSeen := false, frameNumber := s.timer.frameNumber + 1 } ∧
      (lost → Reports s t .referenceLost) ∧ (¬ lost → KeepsCount s t .referenceLost)) ∧
  (∀ (s : State) (line : Line), LinkQuiet s →
    (s.timer.reference = .localOsc →
      exec (.portFrameStrobe line) s = .next (setTimer (fun t => { t with strobeSeen := true }) s).sent ∧
      exec .referenceLost s = .next s.sent) ∧
    (s.timer.reference = .port →
      exec .referenceLost s = .next (queueNotice .referenceLost
        (setTimer (fun t => { t with reference := .localOsc, strobeAge := 4 }) s)).sent)) ∧
  (∀ (s : State) (serial code : Byte), LinkReady s →
    let f : LinkFrame := { kind := 0x1A, serial := serial, payload := [code] }
    (1 < code.toNat → exec (.referenceSet serial code) s = .next (s.answered f (refuse .badField))) ∧
    (code = 0 → exec (.referenceSet serial code) s =
      .next (State.answered (setTimer (fun t => { t with requested := some .localOsc }) s) f (okReply []))) ∧
    (code = 1 → 4 ≤ s.timer.strobeAge →
      exec (.referenceSet serial code) s = .next (s.answered f (refuse .noReference))) ∧
    (code = 1 → s.timer.strobeAge < 4 → exec (.referenceSet serial code) s =
      .next (State.answered (setTimer (fun t => { t with requested := some .port }) s) f (okReply []))))

/-- LANE_SET (R151) and LANE_RESET (R152): BAD_FIELD outside the ranges; the changes of state with their LANE_STATE
notices; a lane that leaves UP has every berth ABSENT. No other lane, no berth of another lane and no other block
changes. That a lane which LANE_SET disables has both runs at 0 is the model's choice (notes/assumptions/38.md).
LANE_TRAINED and LANE_SYNC_LOSS (R153; notes/assumptions/2.md) and TRAILER_ARRIVAL (R153, R177): a DOWN lane
becomes UP; an UP lane becomes DOWN with its count, its LANE_STATE notice and its berths ABSENT, each PRESENT one with its
BERTH_CHANGE notice when its pending flag is clear (R157, R159); a first trailer on a lane that is not
DISABLED is judged by its CRC and by its echo of the frame number less 2.
At a lane frame start (R153) a lane closes the frame just ended: DOWN, a good frame adds to the good run, which at 16 makes
it UP, and a bad one ends the run; UP, a bad frame adds to the bad run, which at 8 makes it DOWN with its SYNC_LOSS count,
and a good one ends the run; both changes have their LANE_STATE notice, and nothing else queues one. A DISABLED lane
closes nothing.
Two clauses are the model's choices: the LANE_STATE notice stands before the BERTH_CHANGE notices of the lane's berths, and
these stand in slot order (notes/assumptions/9.md); and a lane that leaves UP sets the runs, fields and candidates of its
berths that were ABSENT already too (notes/assumptions/18.md). -/
def Obligations.LanesChangeState : Prop :=
  let departed := fun x : BerthLink => { x with
    present := false, validRun := 0, invalidRun := 0,
    headphone := { accepted := false, candidate := none, run := 0 },
    call := { accepted := false, candidate := none, run := 0 },
    screen := { accepted := false, candidate := none, run := 0 },
    knob := { accepted := 0, candidate := none, run := 0 },
    changePending := x.changePending || x.present }
  let departures := fun (l : LaneNo) (s : State) =>
    ((List.finRange 40).filter fun b =>
      decide (laneOf b = l) && s.berths[b].present && !s.berths[b].changePending).map fun b =>
        Notice.berthChange b false false false
  (∀ (s : State) (serial lane enable : Byte), LinkReady s →
     let fs : LinkFrame := { kind := 0x40, serial := serial, payload := [lane, enable] }
     let fr : LinkFrame := { kind := 0x41, serial := serial, payload := [lane] }
     (lane.toNat < 1 ∨ 4 < lane.toNat ∨ 1 < enable.toNat →
       exec (.laneSet serial lane enable) s = .next (s.answered fs (refuse .badField))) ∧
     (lane.toNat < 1 ∨ 4 < lane.toNat →
       exec (.laneReset serial lane) s = .next (s.answered fr (refuse .badField))) ∧
     (∀ l : LaneNo, lane.toNat = l.val + 1 →
       let enter := fun (x : LaneState) => setLane l (fun y => { y with
         state := x, goodRun := 0, badRun := 0, trailerReceived := false, trailerGood := false }) s
       (enable = 1 → s.lanes[l].state = .disabled →
         exec (.laneSet serial lane enable) s = .next (State.answered
           (queueNotice (.laneState l .disabled .down .request) (enter .down)) fs (okReply []))) ∧
       (enable = 1 → s.lanes[l].state ≠ .disabled →
         exec (.laneSet serial lane enable) s = .next (s.answered fs (okReply []))) ∧
       (enable = 0 → s.lanes[l].state = .disabled →
         exec (.laneSet serial lane enable) s = .next (s.answered fs (okReply []))) ∧
       (enable = 0 → s.lanes[l].state = .down →
         exec (.laneSet serial lane enable) s = .next (State.answered
           (queueNotice (.laneState l .down .disabled .request) (enter .disabled)) fs (okReply []))) ∧
       (enable = 0 → s.lanes[l].state = .up →
         ∃ u : State,
           { u with lanes := s.lanes, berths := s.berths, link := s.link } = s ∧
           u.lanes = (enter .disabled).lanes ∧
           u.link = (queueNotices (.laneState l .up .disabled .request :: departures l s) s).link ∧
           (∀ b : Berth, u.berths[b] = if laneOf b = l then departed s.berths[b] else s.berths[b]) ∧
           exec (.laneSet serial lane enable) s = .next (u.answered fs (okReply []))) ∧
       ∃ u : State,
         { u with lanes := s.lanes, berths := s.berths, link := s.link } = s ∧
         u.lanes = (enter .down).lanes ∧
         u.link = (if s.lanes[l].state = .down then s.link
           else s.link.queue (.laneState l s.lanes[l].state .down .request)) ∧
         (∀ b : Berth, (laneOf b = l → u.berths[b].present = false ∧ u.berths[b].knob.accepted = 0 ∧
             u.berths[b].headphone.accepted = false ∧ u.berths[b].call.accepted = false ∧
             u.berths[b].screen.accepted = false ∧ u.berths[b].validRun = 0 ∧ u.berths[b].invalidRun = 0 ∧
             u.berths[b].headphone.candidate = none ∧ u.berths[b].call.candidate = none ∧
             u.berths[b].screen.candidate = none ∧ u.berths[b].knob.candidate = none ∧
             u.berths[b].changePending = false) ∧
           (laneOf b ≠ l → u.berths[b] = s.berths[b])) ∧
         exec (.laneReset serial lane) s = .next (u.answered fr (okReply [])))) ∧
  (∀ (s : State) (l : LaneNo), LinkQuiet s →
     let enter := fun (x : LaneState) => setLane l (fun y => { y with
       state := x, goodRun := 0, badRun := 0, trailerReceived := false, trailerGood := false }) s
     (s.lanes[l].state = .down →
       exec (.laneTrained l) s = .next (queueNotice (.laneState l .down .up .trained) (enter .up)).sent) ∧
     (s.lanes[l].state ≠ .down → exec (.laneTrained l) s = .next s.sent) ∧
     (s.lanes[l].state ≠ .up → exec (.laneSyncLoss l) s = .next s.sent) ∧
     (s.lanes[l].state = .up →
       ∃ u : State, exec (.laneSyncLoss l) s = .next u.sent ∧
         { u with lanes := s.lanes, berths := s.berths, counters := s.counters, link := s.link } = s ∧
         u.lanes = (enter .down).lanes ∧ u.counters = (raise (.syncLoss l) 1 s).counters ∧
         u.link = (queueNotices (.laneState l .up .down .lost :: departures l s) s).link ∧
         ∀ b : Berth, u.berths[b] = if laneOf b = l then departed s.berths[b] else s.berths[b]) ∧
     (∀ echo crc : BitVec 16,
       (s.lanes[l].state = .disabled ∨ s.lanes[l].trailerReceived = true →
         exec (.trailerArrival l echo crc) s = .next s.sent) ∧
       (s.lanes[l].state ≠ .disabled → s.lanes[l].trailerReceived = false →
         exec (.trailerArrival l echo crc) s = .next (setLane l (fun y => { y with
           trailerReceived := true,
           trailerGood := decide (crc16 [highByte echo, lowByte echo] = crc ∧
             echo + 2 = s.timer.frameNumber) }) s).sent))) ∧
  (∀ (s : State) (line : Line), exec (.laneFrameStart line) s = .next (settle (frameBegun line false s)) ∧
     ∀ (strobe : Bool) (l : LaneNo),
       let t := frameBegun line strobe s
       let x := s.lanes[l]
       let y := t.lanes[l]
       let trains := x.state = .down ∧ x.trailerGood = true ∧ 16 ≤ x.goodRun + 1
       let loses := x.state = .up ∧ x.trailerGood = false ∧ 8 ≤ x.badRun + 1
       let next := fun (state : LaneState) (good bad : Nat) => y = { y with
         state := state, goodRun := good, badRun := bad, trailerReceived := false, trailerGood := false }
       (x.state = .disabled → { y with sending := x.sending } = x) ∧
       (trains → next .up 0 0 ∧ Reports s t (.laneState l .down .up .trained)) ∧
       (x.state = .down → x.trailerGood = true → x.goodRun + 1 < 16 → next .down (x.goodRun + 1) x.badRun) ∧
       (x.state = .down → x.trailerGood = false → next .down 0 x.badRun) ∧
       (loses → next .down 0 0 ∧ Reports s t (.laneState l .up .down .lost)) ∧
       (x.state = .up → x.trailerGood = false → x.badRun + 1 < 8 → next .up x.goodRun (x.badRun + 1)) ∧
       (x.state = .up → x.trailerGood = true → next .up x.goodRun 0) ∧
       (¬ trains → ¬ loses → ∀ before after cause, KeepsCount s t (.laneState l before after cause)) ∧
       CountsAtFrame s t (.syncLoss l) (if loses then 1 else 0))

/-- UPSTREAM_SLOT (R156 to R160, R166): on a lane that is not UP, or as a second slot of the frame, it changes nothing; on
an UP lane it is judged: a wrong CRC raises SLOT_ERR, an invalid and a valid slot move the two runs, and from the third
frame of a lane test on the slot of a tested berth raises TEST_ERR by the words that differ from those sent two frames
before, or by 48. A valid slot passes its headphone, call, screen and knob fields through the debounce, whether the berth
is PRESENT or ABSENT. A berth becomes PRESENT on its third valid slot; then, and while it is PRESENT, each field whose run
is 3 takes its candidate; a change of presence or of the headphone or screen field is reported, and an accepted press is
handed over as a call press. A PRESENT berth goes ABSENT on its eighth invalid slot.
At a lane frame start (R153, R156, R157, R159, R166) a berth of an UP lane without a slot counts an invalid one, the berths
of a lane that loses sync go ABSENT, a change of presence is reported, and a tested berth without a slot counts 48
errors.
These clauses are the model's reading: one slot queues one BERTH_CHANGE notice, with the values after all its fields and
before what its call press queues (notes/assumptions/20.md); a loss of sync resets the lane's berths that were ABSENT
already too (18.md); a missing slot ages the runs on an UP lane only, as R156 says, where R161 names DOWN lanes too
(19.md); and the valid slot of an ABSENT tested berth has its words compared (40.md). -/
def Obligations.UpstreamSlotIsJudged : Prop :=
  let absent := fun x : BerthLink => { x with
    present := false, validRun := 0, invalidRun := 0,
    headphone := { accepted := false, candidate := none, run := 0 },
    call := { accepted := false, candidate := none, run := 0 },
    screen := { accepted := false, candidate := none, run := 0 },
    knob := { accepted := 0, candidate := none, run := 0 } }
  (∀ (s : State) (b : Berth) (slot : UpSlot), LinkQuiet s →
    (s.lanes[laneOf b].state ≠ .up ∨ s.berths[b].slotJudged = true →
      exec (.upstreamSlot b slot) s = .next s.sent) ∧
    (s.lanes[laneOf b].state = .up → s.berths[b].slotJudged = false →
      let x := s.berths[b]
      let good := crc16 (be16 slot.echo ++ [slot.status] ++ (slot.loopback.map be16).flatten) = slot.crc
      let valid := good ∧ slot.echo + 2 = s.timer.frameNumber
      let heard := if good then s else raise (.slotErr b) 1 s
      let checks := s.test.running = true ∧ inSet s.test.tested b = true ∧ 3 ≤ s.test.frame
      let sent := wordsFor (s.test.recent.getD 1 []) b
      let errors := if valid then ((List.range 48).filter fun k => sent.getD k 0 != slot.loopback.getD k 0).length
        else 48
      let counted := if checks then raise (.testErr b) errors heard else heard
      let becomes := fun (y : BerthLink) (report press : Bool) =>
        let told : State :=
          if report = true ∧ y.changePending = false then
            queueNotice (.berthChange b y.present y.headphone.accepted y.screen.accepted)
              (setBerth b (fun _ => { y with changePending := true }) counted)
          else setBerth b (fun _ => y) counted
        exec (.upstreamSlot b slot) s = .next (if press then callPress b told else told).sent
      (valid →
        let field := fun (d : Debounced Bool) (v : Bool) =>
          if d.candidate = some v then { d with run := min (d.run + 1) 3 } else { d with candidate := some v, run := 1 }
        let taken := fun d : Debounced Bool =>
          if d.run = 3 then { d with accepted := d.candidate.getD d.accepted } else d
        let position : Fin 16 := (slot.status.extractLsb' 0 4).toFin
        let knob : Debounced (Fin 16) := if x.knob.candidate = some position then
          { x.knob with run := min (x.knob.run + 1) 3 } else { x.knob with candidate := some position, run := 1 }
        let z := { x with
          slotJudged := true, validRun := min (x.validRun + 1) 3, invalidRun := 0,
          headphone := field x.headphone (slot.status.getLsbD 7), call := field x.call (slot.status.getLsbD 6),
          screen := field x.screen (slot.status.getLsbD 5), knob := knob }
        if x.present = true ∨ 2 ≤ x.validRun then
          let y := { z with
            present := true, headphone := taken z.headphone, call := taken z.call, screen := taken z.screen,
            knob := if knob.run = 3 then { knob with accepted := knob.candidate.getD knob.accepted } else knob }
          becomes y
            (!x.present || y.headphone.accepted != x.headphone.accepted || y.screen.accepted != x.screen.accepted)
            (!x.call.accepted && y.call.accepted)
        else becomes z false false) ∧
      (¬ valid →
        let z := { x with slotJudged := true, validRun := 0, invalidRun := min (x.invalidRun + 1) 8 }
        if x.present = true ∧ 8 ≤ x.invalidRun + 1 then becomes (absent z) true false else becomes z false false))) ∧
  (∀ (s : State) (line : Line), exec (.laneFrameStart line) s = .next (settle (frameBegun line false s)) ∧
    ∀ (strobe : Bool) (b : Berth),
      let t := frameBegun line strobe s
      let x := s.berths[b]
      let lane := s.lanes[laneOf b]
      let missed := lane.state = .up ∧ x.slotJudged = false
      let y := if missed then
          let z := { x with validRun := 0, invalidRun := min (x.invalidRun + 1) 8 }
          if x.present = true ∧ 8 ≤ x.invalidRun + 1 then absent z else z
        else x
      let z := if lane.state = .up ∧ lane.trailerGood = false ∧ 8 ≤ lane.badRun + 1 then absent y else y
      let gone := x.present = true ∧ z.present = false
      let tested := s.test.running = true ∧ inSet s.test.tested b = true ∧ 3 ≤ s.test.frame
      t.berths[b] = { z with slotJudged := false, changePending := x.changePending || decide gone } ∧
      (gone ∧ x.changePending = false → Reports s t (.berthChange b false false false)) ∧
      (∀ present headphone screen,
        ¬ (gone ∧ x.changePending = false ∧ present = false ∧ headphone = false ∧ screen = false) →
        KeepsCount s t (.berthChange b present headphone screen)) ∧
      CountsAtFrame s t (.testErr b) (if tested ∧ x.slotJudged = false then 48 else 0) ∧
      CountsAtFrame s t (.slotErr b) 0)

/-- BERTH_PRESENT, BERTH_ABSENT and STATUS_FIELD_ACCEPTED (R157 to R160; notes/assumptions/2.md), the last for the
fields whose acceptance is no call press: presence and accepted values change, and a change that finds the pending
flag clear queues one BERTH_CHANGE notice and sets it. At the change to PRESENT each field whose run is 3 takes its
candidate, and a call field that turns pressed is a call press. A field without a candidate other than its accepted
value stays as it is. Of other berths the events change nothing. That the call press follows the berth's report is the
model's reading (notes/assumptions/20.md). -/
def Obligations.PresenceEventsAct : Prop :=
  ∀ (s : State) (b : Berth), LinkQuiet s →
    let x := s.berths[b]
    let reported := fun (y : BerthLink) => if x.changePending then setBerth b (fun _ => y) s
      else queueNotice (.berthChange b y.present y.headphone.accepted y.screen.accepted)
        (setBerth b (fun _ => { y with changePending := true }) s)
    (x.present = true → exec (.berthPresent b) s = .next s.sent) ∧
    (s.lanes[laneOf b].state ≠ .up → exec (.berthPresent b) s = .next s.sent) ∧
    (x.present = false → s.lanes[laneOf b].state = .up →
      let taken := fun d : Debounced Bool =>
          if d.run = 3 then { d with accepted := d.candidate.getD d.accepted } else d
      let y := { x with
        present := true, validRun := 3, invalidRun := 0, headphone := taken x.headphone, call := taken x.call,
        screen := taken x.screen,
        knob := if x.knob.run = 3 then { x.knob with accepted := x.knob.candidate.getD x.knob.accepted } else x.knob }
      exec (.berthPresent b) s = .next
        (if x.call.accepted = false ∧ y.call.accepted = true then callPress b (reported y) else reported y).sent) ∧
    (x.present = false → exec (.berthAbsent b) s = .next s.sent) ∧
    (x.present = true → exec (.berthAbsent b) s = .next (reported { x with
        present := false, validRun := 0, invalidRun := 0,
        headphone := { accepted := false, candidate := none, run := 0 },
        call := { accepted := false, candidate := none, run := 0 },
        screen := { accepted := false, candidate := none, run := 0 },
        knob := { accepted := 0, candidate := none, run := 0 } }).sent) ∧
    (∀ field, x.present = false → exec (.statusFieldAccepted b field) s = .next s.sent) ∧
    (x.headphone.candidate = none ∨ x.headphone.candidate = some x.headphone.accepted →
      exec (.statusFieldAccepted b .headphone) s = .next s.sent) ∧
    (x.call.candidate = none ∨ x.call.candidate = some x.call.accepted →
      exec (.statusFieldAccepted b .call) s = .next s.sent) ∧
    (x.screen.candidate = none ∨ x.screen.candidate = some x.screen.accepted →
      exec (.statusFieldAccepted b .screen) s = .next s.sent) ∧
    (x.knob.candidate = none ∨ x.knob.candidate = some x.knob.accepted →
      exec (.statusFieldAccepted b .knob) s = .next s.sent) ∧
    (x.present = true → ∀ v, x.knob.candidate = some v → v ≠ x.knob.accepted →
      exec (.statusFieldAccepted b .knob) s =
        .next (setBerth b (fun y => { y with knob := { accepted := v, candidate := some v, run := 3 } }) s).sent) ∧
    (x.present = true → ∀ v, x.headphone.candidate = some v → v ≠ x.headphone.accepted →
      exec (.statusFieldAccepted b .headphone) s =
        .next (reported { x with headphone := { accepted := v, candidate := some v, run := 3 } }).sent) ∧
    (x.present = true → ∀ v, x.screen.candidate = some v → v ≠ x.screen.accepted →
      exec (.statusFieldAccepted b .screen) s =
        .next (reported { x with screen := { accepted := v, candidate := some v, run := 3 } }).sent) ∧
    (x.present = true → x.call.candidate = some false → x.call.accepted = true →
      exec (.statusFieldAccepted b .call) s =
        .next (setBerth b (fun y => { y with call := { accepted := false, candidate := some false, run := 3 } })
          s).sent)

/-- LANE_TEST_START (R163) and LANE_TEST_STOP (R167): the checks in their order; a started test has the PRESENT
berths of the set, frame 0, a generator of all ones and no recent words; a stopped one is IDLE with last end STOPPED
and an empty tested set, and the reply carries the frames run and the tested set.
The lane test at a lane frame start (R161, R162, R164, R165, R167): with the latch set it ends with last end
EMERGENCY; otherwise it goes on, its tested set is that of the frame, and 48 words go to each tested berth, drawn one
after the other from the generator in ascending berth number. The words of the frame just ended become the newest of the
recent words, and those of the frame before it are kept as the next.
The generator's words from every value of its 15 places (R164): a step makes the bit place 14 exclusive-or place 15 and
moves every place up by one, the new bit entering place 1; 16 successive bits are one word, the first most significant; and
the generator stands at the places after the last bit. Place i is bit i-1 of `generator`. -/
def Obligations.LaneTestRuns : Prop :=
  (∀ (s : State) (serial : Byte) (set : BerthSet), LinkReady s →
     let f : LinkFrame := { kind := 0x42, serial := serial, payload := setField set }
     let fp : LinkFrame := { kind := 0x43, serial := serial, payload := [] }
     (set = 0 → exec (.laneTestStart serial set) s = .next (s.answered f (refuse .badField))) ∧
     (set ≠ 0 → s.test.running = true ∨ s.emergency.latch = true →
       exec (.laneTestStart serial set) s = .next (s.answered f (refuse .wrongState))) ∧
     (set ≠ 0 → (∀ b : Berth, inSet set b = true → s.berths[b].present = false) →
       exec (.laneTestStart serial set) s = .next (s.answered f (refuse .wrongState))) ∧
     (s.test.running = false → s.emergency.latch = false →
       (∃ b : Berth, inSet set b = true ∧ s.berths[b].present = true) →
       ∃ tested : BerthSet,
         (∀ b : Berth, inSet tested b = (inSet set b && s.berths[b].present)) ∧
         exec (.laneTestStart serial set) s =
           .next (State.answered { s with test := { s.test with
             running := true, tested := tested, frame := 0, generator := 0x7FFF#15, words := [], recent := [] } } f
             (okReply (setField tested)))) ∧
     (s.test.running = false → exec (.laneTestStop serial) s = .next (s.answered fp (refuse .wrongState))) ∧
     (s.test.running = true →
       exec (.laneTestStop serial) s =
         .next (State.answered { s with test := { s.test with
           running := false, lastEnd := .stopped, tested := 0, words := [], recent := [] } } fp
           (okReply (u16 s.test.frame ++ setField s.test.tested))))) ∧
  (∀ (s : State) (line : Line), exec (.laneFrameStart line) s = .next (settle (frameBegun line false s)) ∧
     ∀ strobe : Bool,
       let t := frameBegun line strobe s
       (s.test.running = false → t.test = { s.test with frameSet := 0 }) ∧
       (s.test.running = true → t.emergency.latch = true →
         t.test.running = false ∧ t.test.lastEnd = .emergency ∧ t.test.tested = 0 ∧ t.test.frameSet = 0) ∧
       (s.test.running = true → t.emergency.latch = false →
         t.test.running = true ∧ t.test.lastEnd = s.test.lastEnd ∧ t.test.tested = s.test.tested ∧
         t.test.frameSet = s.test.tested ∧ t.test.frame = min (s.test.frame + 1) 65535 ∧
         t.test.words.map BerthWords.berth = members s.test.tested ∧
         (t.test.words.map BerthWords.words).flatten =
           (generatorWords (48 * (members s.test.tested).length) s.test.generator).1 ∧
         (∀ x ∈ t.test.words, x.words.length = 48) ∧
         t.test.generator = (generatorWords (48 * (members s.test.tested).length) s.test.generator).2 ∧
         t.test.recent = s.test.words :: s.test.recent.take 1)) ∧
  (∀ (n : Nat) (g : BitVec 15),
     let bit := fun x : BitVec 15 => x.getLsbD 13 != x.getLsbD 14
     let moved := fun x : BitVec 15 => x.extractLsb' 0 14 ++ BitVec.ofBool (bit x)
     let after := fun k : Nat => moved^[k] g
     (generatorWords n g).1.length = n ∧
     (∀ i w, (generatorWords n g).1[i]? = some w → ∀ j < 16, w.getLsbD (15 - j) = bit (after (16 * i + j))) ∧
     (generatorWords n g).2 = after (16 * n))

/-- What each lane sends after a lane frame start (R154, R155, R191): nothing when DISABLED; ten empty HOLD slots when
DOWN; ten slots with the route table's mode, card and cells and the mixer's samples when UP.
The bytes of a slot of at most four cells and of a frame (section 11.7.9): control byte, card, cell count, four cell
positions of 250 bytes with zeros where unused, 48 headphone pairs, 48 speaker samples, and the CRC-16 over the 1291 bytes
before it. -/
def Obligations.FrameStartSendsSlots : Prop :=
  (∀ (s : State) (line : Line), exec (.laneFrameStart line) s = .next (settle (frameBegun line false s)) ∧
    ∀ (strobe : Bool) (l : LaneNo),
      let t := frameBegun line strobe s
      (t.lanes[l].state = .disabled → t.lanes[l].sending = none) ∧
      (t.lanes[l].state = .down → ∃ d, t.lanes[l].sending = some d ∧ d.number = s.timer.frameNumber + 1 ∧
        d.laneUp = false ∧ d.slots.length = 10 ∧
        ∀ x ∈ d.slots, x.mode = .hold ∧ x.card = 0 ∧ x.cells = [] ∧ x.loopback = false ∧
          x.audio.headphones = List.replicate 48 (0, 0) ∧ x.audio.speaker = List.replicate 48 0) ∧
      (t.lanes[l].state = .up → ∃ d, t.lanes[l].sending = some d ∧ d.number = s.timer.frameNumber + 1 ∧
        d.laneUp = true ∧ d.slots.length = 10 ∧
        ∀ b : Berth, laneOf b = l → ∃ x, d.slots[b.val % 10]? = some x ∧
          x.mode = t.routes[b].mode ∧ (x.mode = .card → x.card = t.routes[b].card) ∧
          (x.mode ≠ .card → x.card = 0) ∧ x.cells = t.routes[b].cells ∧
          x.loopback = inSet t.test.frameSet b ∧ x.audio = t.mixer.berths[b].output)) ∧
  (∀ d : DownSlot, (∀ c ∈ d.cells, c.data.length = 250) → d.cells.length ≤ 4 → d.audio.headphones.length = 48 →
    d.audio.speaker.length = 48 →
    let bytes : List Byte := d.bytes
    let mode : Byte := match d.mode with | .pass => 0 | .hold => 1 | .card => 2
    bytes.length = 1293 ∧
    bytes[0]? = some (mode + if d.loopback then 4 else 0) ∧
    bytes[1]? = some d.card ∧ bytes[2]? = some (u8 d.cells.length) ∧
    (∀ i c, d.cells[i]? = some c → ∀ j < 250, bytes[3 + 250 * i + j]? = c.data[j]?) ∧
    (∀ k < 1000, 250 * d.cells.length ≤ k → bytes[3 + k]? = some 0) ∧
    (∀ k p, d.audio.headphones[k]? = some p →
      bytes[1003 + 4 * k]? = some (highByte p.1) ∧ bytes[1004 + 4 * k]? = some (lowByte p.1) ∧
      bytes[1005 + 4 * k]? = some (highByte p.2) ∧ bytes[1006 + 4 * k]? = some (lowByte p.2)) ∧
    (∀ k x, d.audio.speaker[k]? = some x →
      bytes[1195 + 2 * k]? = some (highByte x) ∧ bytes[1196 + 2 * k]? = some (lowByte x)) ∧
    bytes.drop 1291 = [highByte (crc16 (bytes.take 1291)), lowByte (crc16 (bytes.take 1291))]) ∧
  (∀ f : DownFrame, f.bytes =
    [highByte f.number, lowByte f.number, if f.laneUp then 1 else 0] ++ (f.slots.map DownSlot.bytes).flatten)

/-! ## Counter bank (chapter 10) -/

/-- COUNTERS_READ (R168, R173): BAD_FIELD for a group, a first index or a count outside the bank; otherwise the
snapshot number, the fields and the snapshot values of the counters, and nothing changes. -/
def Obligations.CountersReadReportsSnapshot : Prop :=
  ∀ (s : State) (serial group first count : Byte), LinkReady s →
    let f : LinkFrame := { kind := 0x49, serial := serial, payload := [group, first, count] }
    (group.toNat < 1 ∨ 8 < group.toNat →
      exec (.countersRead serial group first count) s = .next (s.answered f (refuse .badField))) ∧
    (∀ g : Fin 8, group.toNat = g.val + 1 →
      let size := [40, 40, 40, 4, 6, 6, 6, 2].getD g.val 0
      let base := [0, 40, 80, 120, 124, 130, 136, 142].getD g.val 0
      (count = 0 ∨ first = 0 ∨ size < first.toNat ∨ size < first.toNat + count.toNat - 1 →
        exec (.countersRead serial group first count) s = .next (s.answered f (refuse .badField))) ∧
      (1 ≤ count.toNat → 1 ≤ first.toNat → first.toNat + count.toNat - 1 ≤ size →
        exec (.countersRead serial group first count) s = .next (s.answered f (okReply
          (be16 s.counters.number ++ [group, first, count] ++
            (((s.counters.snapshot.toList.drop (base + first.toNat - 1)).take count.toNat).map u16).flatten)))))

/-- A snapshot (R170) by COUNTERS_SNAPSHOT (R172) and by the event AUTO_SNAPSHOT with the setting at 1 (R171;
notes/assumptions/2.md). At a lane frame start auto frames counts while the setting is 1, and a snapshot is taken
with the 1000th (R171), at a place among the blocks' work that is a free value (R174, notes/assumptions/1.md): of a
counter that no block raises then, the snapshot holds the live value, and the live one is 0. With no snapshot due,
the live counters that no block raises then, the CELL_DROP, SLOT_ERR, BAD_FRAMES and DROPPED_REQUESTS counters, stay as they
are (R168 to R171). -/
def Obligations.CounterBankSnapshots : Prop :=
  (∀ (s : State) (serial : Byte), LinkReady s →
    exec (.countersSnapshot serial) s =
      .next (State.answered { s with counters :=
        { live := Vector.replicate 144 0, snapshot := s.counters.live, number := s.counters.number + 1,
          autoFrames := 0 } } { kind := 0x48, serial := serial, payload := [] }
        (okReply (be16 (s.counters.number + 1))))) ∧
  (∀ s : State, LinkQuiet s →
    (s.settings.autoSnapshot = 1 →
      exec .autoSnapshot s = .next (State.sent { s with counters :=
        { live := Vector.replicate 144 0, snapshot := s.counters.live, number := s.counters.number + 1,
          autoFrames := 0 } })) ∧
    (s.settings.autoSnapshot ≠ 1 → exec .autoSnapshot s = .next s.sent)) ∧
  (∀ (s : State) (line : Line), exec (.laneFrameStart line) s = .next (settle (frameBegun line false s)) ∧
    ∀ strobe : Bool,
      let t := frameBegun line strobe s
      let still := fun c : Counter =>
        c = .badFrames ∨ c = .droppedRequests ∨ (∃ p, c = .cellDrop p) ∨ (∃ b, c = .slotErr b)
      (s.settings.autoSnapshot ≠ 1 ∨ s.counters.autoFrames < 999 →
        ∀ c, still c → t.counters.live[counterIndex c] = s.counters.live[counterIndex c]) ∧
      (s.settings.autoSnapshot ≠ 1 → t.counters.autoFrames = 0 ∧ t.counters.number = s.counters.number ∧
        t.counters.snapshot = s.counters.snapshot) ∧
      (s.settings.autoSnapshot = 1 → s.counters.autoFrames < 999 →
        t.counters.autoFrames = s.counters.autoFrames + 1 ∧ t.counters.number = s.counters.number ∧
        t.counters.snapshot = s.counters.snapshot) ∧
      (s.settings.autoSnapshot = 1 → s.counters.autoFrames = 999 →
        t.counters.autoFrames = 0 ∧ t.counters.number = s.counters.number + 1 ∧
        (∀ c, still c →
          t.counters.snapshot[counterIndex c] = s.counters.live[counterIndex c] ∧
          t.counters.live[counterIndex c] = 0)))

/-! ## Invariants that every step keeps -/

/-- Right after reset every block is sound. -/
def Obligations.ResetIsSound : Prop :=
  State.reset.link.Sound ∧ State.reset.voice.Ordered ∧ State.reset.voice.IdsUnique ∧ HeldClipsReady State.reset ∧
  MemorySound State.reset ∧ State.reset.clips.PoolSound ∧ State.reset.settings.InRange ∧
  State.reset.counters.Bounded ∧ (∀ p : ProgrammeNo, State.reset.programmes[p].Sound) ∧
  State.reset.emergency.Sound ∧ State.reset.clock.Sound ∧ State.reset.wake.Sound ∧ BerthsSound State.reset ∧
  State.reset.test.Sound ∧ FirstFrameEmpty State.reset

/-- The link unit stays within its capacities and leaves nothing undone between two commands (R178 to R183). -/
def Obligations.LinkStaysSound : Prop :=
  ∀ s t : State, s.link.Sound → step s = .next t → t.link.Sound

/-- The voice stack holds at most 3 records of strictly rising class below the active one and is empty when the
channel is idle; the pending list holds at most 16 in class order; no id is held twice (R38 to R40). -/
def Obligations.VoiceChannelStaysOrdered : Prop :=
  ∀ s t : State, s.voice.Ordered → s.voice.IdsUnique → step s = .next t → t.voice.Ordered ∧ t.voice.IdsUnique

/-- Variant 0 of a clip that a record holds stays READY (R66, R78). -/
def Obligations.HeldClipsStayReady : Prop :=
  ∀ s t : State, HeldClipsReady s → step s = .next t → HeldClipsReady t

/-- Clip memory keeps its canonical form. -/
def Obligations.ClipMemoryStaysCanonical : Prop :=
  ∀ s t : State, MemorySound s → step s = .next t → MemorySound t

/-- Each of the 4096 blocks stays in the ordered free set or in exactly one chain, of the length that the declared
samples need (R67, R69). -/
def Obligations.BlockPoolStaysWhole : Prop :=
  ∀ s t : State, s.clips.PoolSound → step s = .next t → t.clips.PoolSound

/-- Every setting stays in its range (R185, section 11.5; the ranges stand in `Obligations.SettingSetClampsAndActs`) and
every counter in 0 to 65535 (R168, R169). -/
def Obligations.SettingsAndCountersStayInRange : Prop :=
  ∀ s t : State, s.settings.InRange → s.counters.Bounded → step s = .next t →
    t.settings.InRange ∧ t.counters.Bounded

/-- The programme records stay in their ranges, and the interval counter runs in RUNNING alone (R23, R28).
While the accepted line is ASSERTED the latch is set and no clear waits (R106 to R109). Before the first lane frame start
after a reset nothing is taken in for that frame (R23, R189; notes/assumptions/39.md). -/
def Obligations.ProgrammesAndAlarmStaySound : Prop :=
  (∀ s t : State, s.settings.InRange → (∀ p : ProgrammeNo, s.programmes[p].Sound) → step s = .next t →
     ∀ p : ProgrammeNo, t.programmes[p].Sound) ∧
  (∀ s t : State, s.emergency.Sound → step s = .next t → t.emergency.Sound) ∧
  (∀ s t : State, FirstFrameEmpty s → step s = .next t → FirstFrameEmpty t)

/-- The clock stays in its ranges, its journey minute at or below 11519, held only at day 7 23:59:59, and without the
night while UNSET (R112, R113, R116, R121). -/
def Obligations.ClockStaysInRange : Prop :=
  ∀ s t : State, s.clock.Sound → step s = .next t → t.clock.Sound ∧ t.clock.journeyMinute ≤ 11519

/-- The wake list stays in order with one entry per berth at most, each in accord with the stop it names (R125,
R127, R128, R130, R131). -/
def Obligations.WakeListStaysSound : Prop :=
  ∀ s t : State, s.wake.Sound → step s = .next t → t.wake.Sound

/-- A berth whose lane is not UP stays ABSENT, and an ABSENT berth holds the default status (R156 to R158); a lane
test has a tested set exactly while it runs (R162, R167). -/
def Obligations.BerthsStaySound : Prop :=
  ∀ s t : State, BerthsSound s → s.test.Sound → step s = .next t → BerthsSound t ∧ t.test.Sound

end
end

