-- ==== Sys2Proof/Laws/State.lean ====
section
/-! SUPPORT. What each update of the state gives for each field: true by rfl. -/

namespace Sys2Proof.Machine

/-! ## setVoice -/

@[simp] theorem setVoice_settings (f : Voice → Voice) (s : State) : (setVoice f s).settings = s.settings := rfl
@[simp] theorem setVoice_routes (f : Voice → Voice) (s : State) : (setVoice f s).routes = s.routes := rfl
@[simp] theorem setVoice_programmes (f : Voice → Voice) (s : State) : (setVoice f s).programmes = s.programmes := rfl
@[simp] theorem setVoice_voice (f : Voice → Voice) (s : State) : (setVoice f s).voice = f s.voice := rfl
@[simp] theorem setVoice_clips (f : Voice → Voice) (s : State) : (setVoice f s).clips = s.clips := rfl
@[simp] theorem setVoice_mixer (f : Voice → Voice) (s : State) : (setVoice f s).mixer = s.mixer := rfl
@[simp] theorem setVoice_emergency (f : Voice → Voice) (s : State) : (setVoice f s).emergency = s.emergency := rfl
@[simp] theorem setVoice_clock (f : Voice → Voice) (s : State) : (setVoice f s).clock = s.clock := rfl
@[simp] theorem setVoice_wake (f : Voice → Voice) (s : State) : (setVoice f s).wake = s.wake := rfl
@[simp] theorem setVoice_timer (f : Voice → Voice) (s : State) : (setVoice f s).timer = s.timer := rfl
@[simp] theorem setVoice_lanes (f : Voice → Voice) (s : State) : (setVoice f s).lanes = s.lanes := rfl
@[simp] theorem setVoice_berths (f : Voice → Voice) (s : State) : (setVoice f s).berths = s.berths := rfl
@[simp] theorem setVoice_test (f : Voice → Voice) (s : State) : (setVoice f s).test = s.test := rfl
@[simp] theorem setVoice_counters (f : Voice → Voice) (s : State) : (setVoice f s).counters = s.counters := rfl
@[simp] theorem setVoice_link (f : Voice → Voice) (s : State) : (setVoice f s).link = s.link := rfl
@[simp] theorem setVoice_orderCount (f : Voice → Voice) (s : State) : (setVoice f s).orderCount = s.orderCount := rfl
@[simp] theorem setVoice_pending (f : Voice → Voice) (s : State) : (setVoice f s).pending = s.pending := rfl

/-! ## setClock -/

@[simp] theorem setClock_settings (f : Clock → Clock) (s : State) : (setClock f s).settings = s.settings := rfl
@[simp] theorem setClock_routes (f : Clock → Clock) (s : State) : (setClock f s).routes = s.routes := rfl
@[simp] theorem setClock_programmes (f : Clock → Clock) (s : State) : (setClock f s).programmes = s.programmes := rfl
@[simp] theorem setClock_voice (f : Clock → Clock) (s : State) : (setClock f s).voice = s.voice := rfl
@[simp] theorem setClock_clips (f : Clock → Clock) (s : State) : (setClock f s).clips = s.clips := rfl
@[simp] theorem setClock_mixer (f : Clock → Clock) (s : State) : (setClock f s).mixer = s.mixer := rfl
@[simp] theorem setClock_emergency (f : Clock → Clock) (s : State) : (setClock f s).emergency = s.emergency := rfl
@[simp] theorem setClock_clock (f : Clock → Clock) (s : State) : (setClock f s).clock = f s.clock := rfl
@[simp] theorem setClock_wake (f : Clock → Clock) (s : State) : (setClock f s).wake = s.wake := rfl
@[simp] theorem setClock_timer (f : Clock → Clock) (s : State) : (setClock f s).timer = s.timer := rfl
@[simp] theorem setClock_lanes (f : Clock → Clock) (s : State) : (setClock f s).lanes = s.lanes := rfl
@[simp] theorem setClock_berths (f : Clock → Clock) (s : State) : (setClock f s).berths = s.berths := rfl
@[simp] theorem setClock_test (f : Clock → Clock) (s : State) : (setClock f s).test = s.test := rfl
@[simp] theorem setClock_counters (f : Clock → Clock) (s : State) : (setClock f s).counters = s.counters := rfl
@[simp] theorem setClock_link (f : Clock → Clock) (s : State) : (setClock f s).link = s.link := rfl
@[simp] theorem setClock_orderCount (f : Clock → Clock) (s : State) : (setClock f s).orderCount = s.orderCount := rfl
@[simp] theorem setClock_pending (f : Clock → Clock) (s : State) : (setClock f s).pending = s.pending := rfl

/-! ## setEntries -/

@[simp] theorem setEntries_settings (f : List WakeEntry → List WakeEntry) (s : State) : (setEntries f s).settings = s.settings := rfl
@[simp] theorem setEntries_routes (f : List WakeEntry → List WakeEntry) (s : State) : (setEntries f s).routes = s.routes := rfl
@[simp] theorem setEntries_programmes (f : List WakeEntry → List WakeEntry) (s : State) : (setEntries f s).programmes = s.programmes := rfl
@[simp] theorem setEntries_voice (f : List WakeEntry → List WakeEntry) (s : State) : (setEntries f s).voice = s.voice := rfl
@[simp] theorem setEntries_clips (f : List WakeEntry → List WakeEntry) (s : State) : (setEntries f s).clips = s.clips := rfl
@[simp] theorem setEntries_mixer (f : List WakeEntry → List WakeEntry) (s : State) : (setEntries f s).mixer = s.mixer := rfl
@[simp] theorem setEntries_emergency (f : List WakeEntry → List WakeEntry) (s : State) : (setEntries f s).emergency = s.emergency := rfl
@[simp] theorem setEntries_clock (f : List WakeEntry → List WakeEntry) (s : State) : (setEntries f s).clock = s.clock := rfl
@[simp] theorem setEntries_wake (f : List WakeEntry → List WakeEntry) (s : State) : (setEntries f s).wake = { s.wake with entries := f s.wake.entries } := rfl
@[simp] theorem setEntries_timer (f : List WakeEntry → List WakeEntry) (s : State) : (setEntries f s).timer = s.timer := rfl
@[simp] theorem setEntries_lanes (f : List WakeEntry → List WakeEntry) (s : State) : (setEntries f s).lanes = s.lanes := rfl
@[simp] theorem setEntries_berths (f : List WakeEntry → List WakeEntry) (s : State) : (setEntries f s).berths = s.berths := rfl
@[simp] theorem setEntries_test (f : List WakeEntry → List WakeEntry) (s : State) : (setEntries f s).test = s.test := rfl
@[simp] theorem setEntries_counters (f : List WakeEntry → List WakeEntry) (s : State) : (setEntries f s).counters = s.counters := rfl
@[simp] theorem setEntries_link (f : List WakeEntry → List WakeEntry) (s : State) : (setEntries f s).link = s.link := rfl
@[simp] theorem setEntries_orderCount (f : List WakeEntry → List WakeEntry) (s : State) : (setEntries f s).orderCount = s.orderCount := rfl
@[simp] theorem setEntries_pending (f : List WakeEntry → List WakeEntry) (s : State) : (setEntries f s).pending = s.pending := rfl

/-! ## setStop -/

@[simp] theorem setStop_settings (t : StopNo) (x : Stop) (s : State) : (setStop t x s).settings = s.settings := rfl
@[simp] theorem setStop_routes (t : StopNo) (x : Stop) (s : State) : (setStop t x s).routes = s.routes := rfl
@[simp] theorem setStop_programmes (t : StopNo) (x : Stop) (s : State) : (setStop t x s).programmes = s.programmes := rfl
@[simp] theorem setStop_voice (t : StopNo) (x : Stop) (s : State) : (setStop t x s).voice = s.voice := rfl
@[simp] theorem setStop_clips (t : StopNo) (x : Stop) (s : State) : (setStop t x s).clips = s.clips := rfl
@[simp] theorem setStop_mixer (t : StopNo) (x : Stop) (s : State) : (setStop t x s).mixer = s.mixer := rfl
@[simp] theorem setStop_emergency (t : StopNo) (x : Stop) (s : State) : (setStop t x s).emergency = s.emergency := rfl
@[simp] theorem setStop_clock (t : StopNo) (x : Stop) (s : State) : (setStop t x s).clock = s.clock := rfl
@[simp] theorem setStop_wake (t : StopNo) (x : Stop) (s : State) : (setStop t x s).wake = { s.wake with stops := s.wake.stops.set t x } := rfl
@[simp] theorem setStop_timer (t : StopNo) (x : Stop) (s : State) : (setStop t x s).timer = s.timer := rfl
@[simp] theorem setStop_lanes (t : StopNo) (x : Stop) (s : State) : (setStop t x s).lanes = s.lanes := rfl
@[simp] theorem setStop_berths (t : StopNo) (x : Stop) (s : State) : (setStop t x s).berths = s.berths := rfl
@[simp] theorem setStop_test (t : StopNo) (x : Stop) (s : State) : (setStop t x s).test = s.test := rfl
@[simp] theorem setStop_counters (t : StopNo) (x : Stop) (s : State) : (setStop t x s).counters = s.counters := rfl
@[simp] theorem setStop_link (t : StopNo) (x : Stop) (s : State) : (setStop t x s).link = s.link := rfl
@[simp] theorem setStop_orderCount (t : StopNo) (x : Stop) (s : State) : (setStop t x s).orderCount = s.orderCount := rfl
@[simp] theorem setStop_pending (t : StopNo) (x : Stop) (s : State) : (setStop t x s).pending = s.pending := rfl

/-! ## setTimer -/

@[simp] theorem setTimer_settings (f : Timer → Timer) (s : State) : (setTimer f s).settings = s.settings := rfl
@[simp] theorem setTimer_routes (f : Timer → Timer) (s : State) : (setTimer f s).routes = s.routes := rfl
@[simp] theorem setTimer_programmes (f : Timer → Timer) (s : State) : (setTimer f s).programmes = s.programmes := rfl
@[simp] theorem setTimer_voice (f : Timer → Timer) (s : State) : (setTimer f s).voice = s.voice := rfl
@[simp] theorem setTimer_clips (f : Timer → Timer) (s : State) : (setTimer f s).clips = s.clips := rfl
@[simp] theorem setTimer_mixer (f : Timer → Timer) (s : State) : (setTimer f s).mixer = s.mixer := rfl
@[simp] theorem setTimer_emergency (f : Timer → Timer) (s : State) : (setTimer f s).emergency = s.emergency := rfl
@[simp] theorem setTimer_clock (f : Timer → Timer) (s : State) : (setTimer f s).clock = s.clock := rfl
@[simp] theorem setTimer_wake (f : Timer → Timer) (s : State) : (setTimer f s).wake = s.wake := rfl
@[simp] theorem setTimer_timer (f : Timer → Timer) (s : State) : (setTimer f s).timer = f s.timer := rfl
@[simp] theorem setTimer_lanes (f : Timer → Timer) (s : State) : (setTimer f s).lanes = s.lanes := rfl
@[simp] theorem setTimer_berths (f : Timer → Timer) (s : State) : (setTimer f s).berths = s.berths := rfl
@[simp] theorem setTimer_test (f : Timer → Timer) (s : State) : (setTimer f s).test = s.test := rfl
@[simp] theorem setTimer_counters (f : Timer → Timer) (s : State) : (setTimer f s).counters = s.counters := rfl
@[simp] theorem setTimer_link (f : Timer → Timer) (s : State) : (setTimer f s).link = s.link := rfl
@[simp] theorem setTimer_orderCount (f : Timer → Timer) (s : State) : (setTimer f s).orderCount = s.orderCount := rfl
@[simp] theorem setTimer_pending (f : Timer → Timer) (s : State) : (setTimer f s).pending = s.pending := rfl

/-! ## setBerth -/

@[simp] theorem setBerth_settings (b : Berth) (f : BerthLink → BerthLink) (s : State) : (setBerth b f s).settings = s.settings := rfl
@[simp] theorem setBerth_routes (b : Berth) (f : BerthLink → BerthLink) (s : State) : (setBerth b f s).routes = s.routes := rfl
@[simp] theorem setBerth_programmes (b : Berth) (f : BerthLink → BerthLink) (s : State) : (setBerth b f s).programmes = s.programmes := rfl
@[simp] theorem setBerth_voice (b : Berth) (f : BerthLink → BerthLink) (s : State) : (setBerth b f s).voice = s.voice := rfl
@[simp] theorem setBerth_clips (b : Berth) (f : BerthLink → BerthLink) (s : State) : (setBerth b f s).clips = s.clips := rfl
@[simp] theorem setBerth_mixer (b : Berth) (f : BerthLink → BerthLink) (s : State) : (setBerth b f s).mixer = s.mixer := rfl
@[simp] theorem setBerth_emergency (b : Berth) (f : BerthLink → BerthLink) (s : State) : (setBerth b f s).emergency = s.emergency := rfl
@[simp] theorem setBerth_clock (b : Berth) (f : BerthLink → BerthLink) (s : State) : (setBerth b f s).clock = s.clock := rfl
@[simp] theorem setBerth_wake (b : Berth) (f : BerthLink → BerthLink) (s : State) : (setBerth b f s).wake = s.wake := rfl
@[simp] theorem setBerth_timer (b : Berth) (f : BerthLink → BerthLink) (s : State) : (setBerth b f s).timer = s.timer := rfl
@[simp] theorem setBerth_lanes (b : Berth) (f : BerthLink → BerthLink) (s : State) : (setBerth b f s).lanes = s.lanes := rfl
@[simp] theorem setBerth_berths (b : Berth) (f : BerthLink → BerthLink) (s : State) : (setBerth b f s).berths = amend s.berths b f := rfl
@[simp] theorem setBerth_test (b : Berth) (f : BerthLink → BerthLink) (s : State) : (setBerth b f s).test = s.test := rfl
@[simp] theorem setBerth_counters (b : Berth) (f : BerthLink → BerthLink) (s : State) : (setBerth b f s).counters = s.counters := rfl
@[simp] theorem setBerth_link (b : Berth) (f : BerthLink → BerthLink) (s : State) : (setBerth b f s).link = s.link := rfl
@[simp] theorem setBerth_orderCount (b : Berth) (f : BerthLink → BerthLink) (s : State) : (setBerth b f s).orderCount = s.orderCount := rfl
@[simp] theorem setBerth_pending (b : Berth) (f : BerthLink → BerthLink) (s : State) : (setBerth b f s).pending = s.pending := rfl

/-! ## setLane -/

@[simp] theorem setLane_settings (l : LaneNo) (f : Lane → Lane) (s : State) : (setLane l f s).settings = s.settings := rfl
@[simp] theorem setLane_routes (l : LaneNo) (f : Lane → Lane) (s : State) : (setLane l f s).routes = s.routes := rfl
@[simp] theorem setLane_programmes (l : LaneNo) (f : Lane → Lane) (s : State) : (setLane l f s).programmes = s.programmes := rfl
@[simp] theorem setLane_voice (l : LaneNo) (f : Lane → Lane) (s : State) : (setLane l f s).voice = s.voice := rfl
@[simp] theorem setLane_clips (l : LaneNo) (f : Lane → Lane) (s : State) : (setLane l f s).clips = s.clips := rfl
@[simp] theorem setLane_mixer (l : LaneNo) (f : Lane → Lane) (s : State) : (setLane l f s).mixer = s.mixer := rfl
@[simp] theorem setLane_emergency (l : LaneNo) (f : Lane → Lane) (s : State) : (setLane l f s).emergency = s.emergency := rfl
@[simp] theorem setLane_clock (l : LaneNo) (f : Lane → Lane) (s : State) : (setLane l f s).clock = s.clock := rfl
@[simp] theorem setLane_wake (l : LaneNo) (f : Lane → Lane) (s : State) : (setLane l f s).wake = s.wake := rfl
@[simp] theorem setLane_timer (l : LaneNo) (f : Lane → Lane) (s : State) : (setLane l f s).timer = s.timer := rfl
@[simp] theorem setLane_lanes (l : LaneNo) (f : Lane → Lane) (s : State) : (setLane l f s).lanes = amend s.lanes l f := rfl
@[simp] theorem setLane_berths (l : LaneNo) (f : Lane → Lane) (s : State) : (setLane l f s).berths = s.berths := rfl
@[simp] theorem setLane_test (l : LaneNo) (f : Lane → Lane) (s : State) : (setLane l f s).test = s.test := rfl
@[simp] theorem setLane_counters (l : LaneNo) (f : Lane → Lane) (s : State) : (setLane l f s).counters = s.counters := rfl
@[simp] theorem setLane_link (l : LaneNo) (f : Lane → Lane) (s : State) : (setLane l f s).link = s.link := rfl
@[simp] theorem setLane_orderCount (l : LaneNo) (f : Lane → Lane) (s : State) : (setLane l f s).orderCount = s.orderCount := rfl
@[simp] theorem setLane_pending (l : LaneNo) (f : Lane → Lane) (s : State) : (setLane l f s).pending = s.pending := rfl

/-! ## setRoute -/

@[simp] theorem setRoute_settings (b : Berth) (f : BerthRoute → BerthRoute) (s : State) : (setRoute b f s).settings = s.settings := rfl
@[simp] theorem setRoute_routes (b : Berth) (f : BerthRoute → BerthRoute) (s : State) : (setRoute b f s).routes = amend s.routes b f := rfl
@[simp] theorem setRoute_programmes (b : Berth) (f : BerthRoute → BerthRoute) (s : State) : (setRoute b f s).programmes = s.programmes := rfl
@[simp] theorem setRoute_voice (b : Berth) (f : BerthRoute → BerthRoute) (s : State) : (setRoute b f s).voice = s.voice := rfl
@[simp] theorem setRoute_clips (b : Berth) (f : BerthRoute → BerthRoute) (s : State) : (setRoute b f s).clips = s.clips := rfl
@[simp] theorem setRoute_mixer (b : Berth) (f : BerthRoute → BerthRoute) (s : State) : (setRoute b f s).mixer = s.mixer := rfl
@[simp] theorem setRoute_emergency (b : Berth) (f : BerthRoute → BerthRoute) (s : State) : (setRoute b f s).emergency = s.emergency := rfl
@[simp] theorem setRoute_clock (b : Berth) (f : BerthRoute → BerthRoute) (s : State) : (setRoute b f s).clock = s.clock := rfl
@[simp] theorem setRoute_wake (b : Berth) (f : BerthRoute → BerthRoute) (s : State) : (setRoute b f s).wake = s.wake := rfl
@[simp] theorem setRoute_timer (b : Berth) (f : BerthRoute → BerthRoute) (s : State) : (setRoute b f s).timer = s.timer := rfl
@[simp] theorem setRoute_lanes (b : Berth) (f : BerthRoute → BerthRoute) (s : State) : (setRoute b f s).lanes = s.lanes := rfl
@[simp] theorem setRoute_berths (b : Berth) (f : BerthRoute → BerthRoute) (s : State) : (setRoute b f s).berths = s.berths := rfl
@[simp] theorem setRoute_test (b : Berth) (f : BerthRoute → BerthRoute) (s : State) : (setRoute b f s).test = s.test := rfl
@[simp] theorem setRoute_counters (b : Berth) (f : BerthRoute → BerthRoute) (s : State) : (setRoute b f s).counters = s.counters := rfl
@[simp] theorem setRoute_link (b : Berth) (f : BerthRoute → BerthRoute) (s : State) : (setRoute b f s).link = s.link := rfl
@[simp] theorem setRoute_orderCount (b : Berth) (f : BerthRoute → BerthRoute) (s : State) : (setRoute b f s).orderCount = s.orderCount := rfl
@[simp] theorem setRoute_pending (b : Berth) (f : BerthRoute → BerthRoute) (s : State) : (setRoute b f s).pending = s.pending := rfl

/-! ## setProgramme -/

@[simp] theorem setProgramme_settings (p : ProgrammeNo) (f : Programme → Programme) (s : State) : (setProgramme p f s).settings = s.settings := rfl
@[simp] theorem setProgramme_routes (p : ProgrammeNo) (f : Programme → Programme) (s : State) : (setProgramme p f s).routes = s.routes := rfl
@[simp] theorem setProgramme_programmes (p : ProgrammeNo) (f : Programme → Programme) (s : State) : (setProgramme p f s).programmes = amend s.programmes p f := rfl
@[simp] theorem setProgramme_voice (p : ProgrammeNo) (f : Programme → Programme) (s : State) : (setProgramme p f s).voice = s.voice := rfl
@[simp] theorem setProgramme_clips (p : ProgrammeNo) (f : Programme → Programme) (s : State) : (setProgramme p f s).clips = s.clips := rfl
@[simp] theorem setProgramme_mixer (p : ProgrammeNo) (f : Programme → Programme) (s : State) : (setProgramme p f s).mixer = s.mixer := rfl
@[simp] theorem setProgramme_emergency (p : ProgrammeNo) (f : Programme → Programme) (s : State) : (setProgramme p f s).emergency = s.emergency := rfl
@[simp] theorem setProgramme_clock (p : ProgrammeNo) (f : Programme → Programme) (s : State) : (setProgramme p f s).clock = s.clock := rfl
@[simp] theorem setProgramme_wake (p : ProgrammeNo) (f : Programme → Programme) (s : State) : (setProgramme p f s).wake = s.wake := rfl
@[simp] theorem setProgramme_timer (p : ProgrammeNo) (f : Programme → Programme) (s : State) : (setProgramme p f s).timer = s.timer := rfl
@[simp] theorem setProgramme_lanes (p : ProgrammeNo) (f : Programme → Programme) (s : State) : (setProgramme p f s).lanes = s.lanes := rfl
@[simp] theorem setProgramme_berths (p : ProgrammeNo) (f : Programme → Programme) (s : State) : (setProgramme p f s).berths = s.berths := rfl
@[simp] theorem setProgramme_test (p : ProgrammeNo) (f : Programme → Programme) (s : State) : (setProgramme p f s).test = s.test := rfl
@[simp] theorem setProgramme_counters (p : ProgrammeNo) (f : Programme → Programme) (s : State) : (setProgramme p f s).counters = s.counters := rfl
@[simp] theorem setProgramme_link (p : ProgrammeNo) (f : Programme → Programme) (s : State) : (setProgramme p f s).link = s.link := rfl
@[simp] theorem setProgramme_orderCount (p : ProgrammeNo) (f : Programme → Programme) (s : State) : (setProgramme p f s).orderCount = s.orderCount := rfl
@[simp] theorem setProgramme_pending (p : ProgrammeNo) (f : Programme → Programme) (s : State) : (setProgramme p f s).pending = s.pending := rfl

/-! ## setMixer -/

@[simp] theorem setMixer_settings (f : Mixer → Mixer) (s : State) : (setMixer f s).settings = s.settings := rfl
@[simp] theorem setMixer_routes (f : Mixer → Mixer) (s : State) : (setMixer f s).routes = s.routes := rfl
@[simp] theorem setMixer_programmes (f : Mixer → Mixer) (s : State) : (setMixer f s).programmes = s.programmes := rfl
@[simp] theorem setMixer_voice (f : Mixer → Mixer) (s : State) : (setMixer f s).voice = s.voice := rfl
@[simp] theorem setMixer_clips (f : Mixer → Mixer) (s : State) : (setMixer f s).clips = s.clips := rfl
@[simp] theorem setMixer_mixer (f : Mixer → Mixer) (s : State) : (setMixer f s).mixer = f s.mixer := rfl
@[simp] theorem setMixer_emergency (f : Mixer → Mixer) (s : State) : (setMixer f s).emergency = s.emergency := rfl
@[simp] theorem setMixer_clock (f : Mixer → Mixer) (s : State) : (setMixer f s).clock = s.clock := rfl
@[simp] theorem setMixer_wake (f : Mixer → Mixer) (s : State) : (setMixer f s).wake = s.wake := rfl
@[simp] theorem setMixer_timer (f : Mixer → Mixer) (s : State) : (setMixer f s).timer = s.timer := rfl
@[simp] theorem setMixer_lanes (f : Mixer → Mixer) (s : State) : (setMixer f s).lanes = s.lanes := rfl
@[simp] theorem setMixer_berths (f : Mixer → Mixer) (s : State) : (setMixer f s).berths = s.berths := rfl
@[simp] theorem setMixer_test (f : Mixer → Mixer) (s : State) : (setMixer f s).test = s.test := rfl
@[simp] theorem setMixer_counters (f : Mixer → Mixer) (s : State) : (setMixer f s).counters = s.counters := rfl
@[simp] theorem setMixer_link (f : Mixer → Mixer) (s : State) : (setMixer f s).link = s.link := rfl
@[simp] theorem setMixer_orderCount (f : Mixer → Mixer) (s : State) : (setMixer f s).orderCount = s.orderCount := rfl
@[simp] theorem setMixer_pending (f : Mixer → Mixer) (s : State) : (setMixer f s).pending = s.pending := rfl

/-! ## setLink -/

@[simp] theorem setLink_settings (f : Link → Link) (s : State) : (setLink f s).settings = s.settings := rfl
@[simp] theorem setLink_routes (f : Link → Link) (s : State) : (setLink f s).routes = s.routes := rfl
@[simp] theorem setLink_programmes (f : Link → Link) (s : State) : (setLink f s).programmes = s.programmes := rfl
@[simp] theorem setLink_voice (f : Link → Link) (s : State) : (setLink f s).voice = s.voice := rfl
@[simp] theorem setLink_clips (f : Link → Link) (s : State) : (setLink f s).clips = s.clips := rfl
@[simp] theorem setLink_mixer (f : Link → Link) (s : State) : (setLink f s).mixer = s.mixer := rfl
@[simp] theorem setLink_emergency (f : Link → Link) (s : State) : (setLink f s).emergency = s.emergency := rfl
@[simp] theorem setLink_clock (f : Link → Link) (s : State) : (setLink f s).clock = s.clock := rfl
@[simp] theorem setLink_wake (f : Link → Link) (s : State) : (setLink f s).wake = s.wake := rfl
@[simp] theorem setLink_timer (f : Link → Link) (s : State) : (setLink f s).timer = s.timer := rfl
@[simp] theorem setLink_lanes (f : Link → Link) (s : State) : (setLink f s).lanes = s.lanes := rfl
@[simp] theorem setLink_berths (f : Link → Link) (s : State) : (setLink f s).berths = s.berths := rfl
@[simp] theorem setLink_test (f : Link → Link) (s : State) : (setLink f s).test = s.test := rfl
@[simp] theorem setLink_counters (f : Link → Link) (s : State) : (setLink f s).counters = s.counters := rfl
@[simp] theorem setLink_link (f : Link → Link) (s : State) : (setLink f s).link = f s.link := rfl
@[simp] theorem setLink_orderCount (f : Link → Link) (s : State) : (setLink f s).orderCount = s.orderCount := rfl
@[simp] theorem setLink_pending (f : Link → Link) (s : State) : (setLink f s).pending = s.pending := rfl

/-! ## raise -/

@[simp] theorem raise_settings (c : Counter) (n : Nat) (s : State) : (raise c n s).settings = s.settings := rfl
@[simp] theorem raise_routes (c : Counter) (n : Nat) (s : State) : (raise c n s).routes = s.routes := rfl
@[simp] theorem raise_programmes (c : Counter) (n : Nat) (s : State) : (raise c n s).programmes = s.programmes := rfl
@[simp] theorem raise_voice (c : Counter) (n : Nat) (s : State) : (raise c n s).voice = s.voice := rfl
@[simp] theorem raise_clips (c : Counter) (n : Nat) (s : State) : (raise c n s).clips = s.clips := rfl
@[simp] theorem raise_mixer (c : Counter) (n : Nat) (s : State) : (raise c n s).mixer = s.mixer := rfl
@[simp] theorem raise_emergency (c : Counter) (n : Nat) (s : State) : (raise c n s).emergency = s.emergency := rfl
@[simp] theorem raise_clock (c : Counter) (n : Nat) (s : State) : (raise c n s).clock = s.clock := rfl
@[simp] theorem raise_wake (c : Counter) (n : Nat) (s : State) : (raise c n s).wake = s.wake := rfl
@[simp] theorem raise_timer (c : Counter) (n : Nat) (s : State) : (raise c n s).timer = s.timer := rfl
@[simp] theorem raise_lanes (c : Counter) (n : Nat) (s : State) : (raise c n s).lanes = s.lanes := rfl
@[simp] theorem raise_berths (c : Counter) (n : Nat) (s : State) : (raise c n s).berths = s.berths := rfl
@[simp] theorem raise_test (c : Counter) (n : Nat) (s : State) : (raise c n s).test = s.test := rfl
@[simp] theorem raise_counters (c : Counter) (n : Nat) (s : State) : (raise c n s).counters = { s.counters with live := amend s.counters.live (counterIndex c) (fun v => saturate v n) } := rfl
@[simp] theorem raise_link (c : Counter) (n : Nat) (s : State) : (raise c n s).link = s.link := rfl
@[simp] theorem raise_orderCount (c : Counter) (n : Nat) (s : State) : (raise c n s).orderCount = s.orderCount := rfl
@[simp] theorem raise_pending (c : Counter) (n : Nat) (s : State) : (raise c n s).pending = s.pending := rfl

/-! ## takeSnapshot -/

@[simp] theorem takeSnapshot_settings (s : State) : (takeSnapshot s).settings = s.settings := rfl
@[simp] theorem takeSnapshot_routes (s : State) : (takeSnapshot s).routes = s.routes := rfl
@[simp] theorem takeSnapshot_programmes (s : State) : (takeSnapshot s).programmes = s.programmes := rfl
@[simp] theorem takeSnapshot_voice (s : State) : (takeSnapshot s).voice = s.voice := rfl
@[simp] theorem takeSnapshot_clips (s : State) : (takeSnapshot s).clips = s.clips := rfl
@[simp] theorem takeSnapshot_mixer (s : State) : (takeSnapshot s).mixer = s.mixer := rfl
@[simp] theorem takeSnapshot_emergency (s : State) : (takeSnapshot s).emergency = s.emergency := rfl
@[simp] theorem takeSnapshot_clock (s : State) : (takeSnapshot s).clock = s.clock := rfl
@[simp] theorem takeSnapshot_wake (s : State) : (takeSnapshot s).wake = s.wake := rfl
@[simp] theorem takeSnapshot_timer (s : State) : (takeSnapshot s).timer = s.timer := rfl
@[simp] theorem takeSnapshot_lanes (s : State) : (takeSnapshot s).lanes = s.lanes := rfl
@[simp] theorem takeSnapshot_berths (s : State) : (takeSnapshot s).berths = s.berths := rfl
@[simp] theorem takeSnapshot_test (s : State) : (takeSnapshot s).test = s.test := rfl
@[simp] theorem takeSnapshot_counters (s : State) : (takeSnapshot s).counters = s.counters.take := rfl
@[simp] theorem takeSnapshot_link (s : State) : (takeSnapshot s).link = s.link := rfl
@[simp] theorem takeSnapshot_orderCount (s : State) : (takeSnapshot s).orderCount = s.orderCount := rfl
@[simp] theorem takeSnapshot_pending (s : State) : (takeSnapshot s).pending = s.pending := rfl

/-! ## queueNotice -/

@[simp] theorem queueNotice_settings (n : Notice) (s : State) : (queueNotice n s).settings = s.settings := rfl
@[simp] theorem queueNotice_routes (n : Notice) (s : State) : (queueNotice n s).routes = s.routes := rfl
@[simp] theorem queueNotice_programmes (n : Notice) (s : State) : (queueNotice n s).programmes = s.programmes := rfl
@[simp] theorem queueNotice_voice (n : Notice) (s : State) : (queueNotice n s).voice = s.voice := rfl
@[simp] theorem queueNotice_clips (n : Notice) (s : State) : (queueNotice n s).clips = s.clips := rfl
@[simp] theorem queueNotice_mixer (n : Notice) (s : State) : (queueNotice n s).mixer = s.mixer := rfl
@[simp] theorem queueNotice_emergency (n : Notice) (s : State) : (queueNotice n s).emergency = s.emergency := rfl
@[simp] theorem queueNotice_clock (n : Notice) (s : State) : (queueNotice n s).clock = s.clock := rfl
@[simp] theorem queueNotice_wake (n : Notice) (s : State) : (queueNotice n s).wake = s.wake := rfl
@[simp] theorem queueNotice_timer (n : Notice) (s : State) : (queueNotice n s).timer = s.timer := rfl
@[simp] theorem queueNotice_lanes (n : Notice) (s : State) : (queueNotice n s).lanes = s.lanes := rfl
@[simp] theorem queueNotice_berths (n : Notice) (s : State) : (queueNotice n s).berths = s.berths := rfl
@[simp] theorem queueNotice_test (n : Notice) (s : State) : (queueNotice n s).test = s.test := rfl
@[simp] theorem queueNotice_counters (n : Notice) (s : State) : (queueNotice n s).counters = s.counters := rfl
@[simp] theorem queueNotice_link (n : Notice) (s : State) : (queueNotice n s).link = s.link.queue n := rfl
@[simp] theorem queueNotice_orderCount (n : Notice) (s : State) : (queueNotice n s).orderCount = s.orderCount := rfl
@[simp] theorem queueNotice_pending (n : Notice) (s : State) : (queueNotice n s).pending = s.pending := rfl

end Sys2Proof.Machine
end

