-- ==== Sys2Proof/Laws/Ops.lean ====
section
/-! SUPPORT. What the shared operations of Machine/Ops.lean do: tables, berth sets, counters, notices. -/

namespace Sys2Proof.Machine

/-! ## Tables -/

theorem amend_get {α : Type} {n : Nat} (v : Vector α n) (i j : Fin n) (f : α → α) :
    (amend v i f)[j] = if i = j then f v[i] else v[j] := by
  simp [amend, Vector.getElem_set, Fin.ext_iff]

theorem amend_get_same {α : Type} {n : Nat} (v : Vector α n) (i : Fin n) (f : α → α) :
    (amend v i f)[i] = f v[i] := by rw [amend_get, if_pos rfl]

theorem amend_get_other {α : Type} {n : Nat} (v : Vector α n) {i j : Fin n} (f : α → α) (h : i ≠ j) :
    (amend v i f)[j] = v[j] := by rw [amend_get, if_neg h]

/-- The same in simp's normal form of an index. -/
@[simp] theorem amend_getElem {α : Type} {n : Nat} (v : Vector α n) (i j : Fin n) (f : α → α) :
    (amend v i f)[(j : Nat)] = if i = j then f v[(i : Nat)] else v[(j : Nat)] := amend_get v i j f

theorem tabulate_get {α : Type} {n : Nat} (f : Fin n → α) (i : Fin n) : (tabulate f)[i] = f i := by
  simp [tabulate]

@[simp] theorem tabulate_getElem {α : Type} {n : Nat} (f : Fin n → α) (i : Fin n) :
    (tabulate f)[(i : Nat)] = f i := tabulate_get f i

/-- Two tables with the same entries are one table. -/
theorem table_ext {α : Type} {n : Nat} {v w : Vector α n} (h : ∀ i : Fin n, v[i] = w[i]) : v = w :=
  Vector.ext fun i hi => h ⟨i, hi⟩

/-! ## Berth sets -/

theorem setOf_fold (p : Berth → Bool) (l : List Berth) (acc : BerthSet) (b : Berth) :
    (l.foldl (fun acc b => if p b then acc ||| (1#40 <<< b.val) else acc) acc).getLsbD b.val =
      (acc.getLsbD b.val || (p b && decide (b ∈ l))) := by
  induction l generalizing acc with
  | nil => simp
  | cons c l ih =>
    rw [List.foldl_cons, ih]
    by_cases hc : p c
    · simp only [hc, if_true, BitVec.getLsbD_or, BitVec.getLsbD_shiftLeft, List.mem_cons]
      by_cases hbc : b = c
      · subst hbc; simp [hc]
      · have h0 : (b : Nat) ≠ c := fun h => hbc (Fin.ext h)
        by_cases hlt : (b : Nat) < c
        · simp [hlt, hbc]
        · have hne : (b : Nat) - c ≠ 0 := by omega
          simp [hlt, hbc, hne]
    · by_cases hbc : b = c
      · subst hbc; simp [hc]
      · simp [hc, hbc]

/-- The set of the berths that satisfy p holds exactly those. -/
@[simp] theorem inSet_setOf (p : Berth → Bool) (b : Berth) : inSet (setOf p) b = p b := by
  unfold inSet setOf; rw [setOf_fold]; simp

theorem inSet_and (x y : BerthSet) (b : Berth) : inSet (x &&& y) b = (inSet x b && inSet y b) := by
  simp [inSet]

@[simp] theorem inSet_zero (b : Berth) : inSet 0 b = false := by simp [inSet]

theorem mem_members (set : BerthSet) (b : Berth) : b ∈ members set ↔ inSet set b = true := by
  simp [members]

theorem mem_berthsOf (l : LaneNo) (b : Berth) : b ∈ berthsOf l ↔ laneOf b = l := by
  simp [berthsOf]

/-! ## Counters -/

theorem saturate_le (v n : Nat) : saturate v n ≤ 65535 := Nat.min_le_right _ _

/-- A raise changes one live counter, to the smaller of the sum and 65535 (R168). -/
theorem raise_live (c d : Counter) (n : Nat) (s : State) :
    (raise c n s).counters.live[counterIndex d] =
      if counterIndex c = counterIndex d then min (s.counters.live[counterIndex c] + n) 65535
      else s.counters.live[counterIndex d] := by
  simp only [raise, saturate]; rw [amend_get]

/-! ## Notices -/

/-- A notice joins the queue when it has room, and else sets the flag; nothing else of the link changes (R183). -/
theorem Link.queue_eq (l : Link) (n : Notice) :
    l.queue n =
      { l with
        notices := if l.notices.length < 32 then l.notices ++ [n] else l.notices
        dropped := if l.notices.length < 32 then l.dropped else true } := by
  unfold Link.queue noticeCapacity; split <;> rfl

theorem Link.queue_length (l : Link) (n : Notice) (h : l.notices.length ≤ 32) :
    (l.queue n).notices.length ≤ 32 := by
  rw [Link.queue_eq]; dsimp only; split <;> (try rw [List.length_append, List.length_singleton]) <;> omega

/-- Notices queued one after the other change the link alone. -/
theorem queueNotices_eq (ns : List Notice) (s : State) :
    queueNotices ns s = { s with link := ns.foldl Link.queue s.link } := by
  induction ns generalizing s with
  | nil => rfl
  | cons n ns ih => exact ih (queueNotice n s)

@[simp] theorem Link.queue_buffer (l : Link) (n : Notice) : (l.queue n).buffer = l.buffer := by
  rw [Link.queue_eq]
@[simp] theorem Link.queue_sending (l : Link) (n : Notice) : (l.queue n).sending = l.sending := by
  rw [Link.queue_eq]
@[simp] theorem Link.queue_held (l : Link) (n : Notice) : (l.queue n).held = l.held := by
  rw [Link.queue_eq]

end Sys2Proof.Machine
end

