-- ==== Sys2Proof/Laws/Memory.lean ====
section
/-! SUPPORT. Clip memory: a read after a write, and the canonical form (R67). -/

namespace Sys2Proof.Machine

/-! ## The canonical form -/

theorem wfFrom_weaken {b : Option Nat} {mem : List Host.Cell} (h : Memory.wfFrom b mem = true) :
    Memory.wfFrom none mem = true := by
  cases mem with
  | nil => rfl
  | cons c rest => simp_all [Memory.wfFrom]

theorem wfFrom_lower {a b : Nat} {mem : List Host.Cell} (hab : a ≤ b) (h : Memory.wfFrom (some b) mem = true) :
    Memory.wfFrom (some a) mem = true := by
  cases mem with
  | nil => rfl
  | cons c rest => simp_all [Memory.wfFrom]; omega

/-- In a list whose addresses are above a bound, every address up to the bound reads as unlisted. -/
theorem read_below {b : Nat} {mem : List Host.Cell} (h : Memory.wfFrom (some b) mem = true) {a : Nat} (ha : a ≤ b) :
    Memory.read mem a = Memory.blank := by
  induction mem generalizing b with
  | nil => rfl
  | cons c rest ih =>
    simp only [Memory.wfFrom, Bool.and_eq_true, decide_eq_true_eq] at h
    obtain ⟨⟨hb, -⟩, hr⟩ := h
    have hne : c.1 ≠ a := by omega
    simp only [Memory.read, hne, if_false]
    exact ih hr (by omega)

theorem cell_wf {b : Option Nat} {a : Nat} {v : Byte} {rest : List Host.Cell}
    (hb : ∀ k, b = some k → k < a) (h : Memory.wfFrom (some a) rest = true) :
    Memory.wfFrom b (Memory.cell a v ++ rest) = true := by
  unfold Memory.cell
  split
  · cases b with
    | none => simpa using wfFrom_weaken h
    | some k => simpa using wfFrom_lower (Nat.le_of_lt (hb k rfl)) h
  · rename_i hv
    cases b with
    | none => simp [Memory.wfFrom, hv, h]
    | some k => simp [Memory.wfFrom, hv, h, hb k rfl]

theorem write_wfFrom (b : Option Nat) (mem : List Host.Cell) (a : Nat) (v : Byte)
    (hb : ∀ k, b = some k → k < a) (h : Memory.wfFrom b mem = true) :
    Memory.wfFrom b (Memory.write mem a v) = true := by
  induction mem generalizing b with
  | nil => simpa [Memory.write] using cell_wf (v := v) (rest := []) hb rfl
  | cons c rest ih =>
    have h' := h
    simp only [Memory.wfFrom, Bool.and_eq_true, decide_eq_true_eq] at h
    obtain ⟨⟨hc, hv⟩, hr⟩ := h
    unfold Memory.write
    split
    · rename_i hlt
      refine cell_wf hb ?_
      simp [Memory.wfFrom, hlt, hv, hr]
    · split
      · rename_i heq
        exact cell_wf hb (heq ▸ hr)
      · have hgt : c.1 < a := by omega
        have := ih (some c.1) (by intro k hk; cases hk; exact hgt) hr
        simp [Memory.wfFrom, hv, this, hc]

/-- A write keeps the canonical form. -/
theorem write_wf (mem : List Host.Cell) (a : Nat) (v : Byte) (h : Memory.wf mem = true) :
    Memory.wf (Memory.write mem a v) = true :=
  write_wfFrom none mem a v (by simp) h

/-- Storing a sample keeps the canonical form. -/
theorem writeSample_wf (mem : List Host.Cell) (a : Nat) (v : Sample) (h : Memory.wf mem = true) :
    Memory.wf (Memory.writeSample mem a v) = true :=
  write_wf _ _ _ (write_wf _ _ _ h)

/-- Storing a run of samples keeps the canonical form. -/
theorem writeSamples_wf (mem : List Host.Cell) (chain : List Nat) (offset : Nat) (samples : List Sample)
    (h : Memory.wf mem = true) : Memory.wf (writeSamples mem chain offset samples) = true := by
  induction samples generalizing mem offset with
  | nil => exact h
  | cons v rest ih => exact ih _ _ (writeSample_wf _ _ _ h)

theorem reset_memory_wf : Memory.wf State.reset.clips.mem = true := rfl

/-! ## Read after write -/

theorem read_cell (a : Nat) (v : Byte) {rest : List Host.Cell} (h : Memory.wfFrom (some a) rest = true) (k : Nat) :
    Memory.read (Memory.cell a v ++ rest) k = if a = k then v else Memory.read rest k := by
  unfold Memory.cell
  split
  · rename_i hv
    by_cases hk : a = k
    · subst hk; simpa [hv] using read_below h (Nat.le_refl _)
    · simp [hk]
  · simp [Memory.read]

theorem read_writeFrom (b : Option Nat) (mem : List Host.Cell) (a : Nat) (v : Byte) (k : Nat)
    (h : Memory.wfFrom b mem = true) :
    Memory.read (Memory.write mem a v) k = if a = k then v else Memory.read mem k := by
  induction mem generalizing b with
  | nil => simpa [Memory.write] using read_cell a v (rest := []) rfl k
  | cons c rest ih =>
    have h' := h
    simp only [Memory.wfFrom, Bool.and_eq_true, decide_eq_true_eq] at h
    obtain ⟨⟨hc, hv⟩, hr⟩ := h
    unfold Memory.write
    split
    · rename_i hlt
      exact read_cell a v (by simp [Memory.wfFrom, hlt, hv, hr]) k
    · split
      · rename_i heq
        rw [read_cell a v (heq ▸ hr) k]
        by_cases hk : a = k
        · simp [hk]
        · have : c.1 ≠ k := by omega
          simp [hk, Memory.read, this]
      · rename_i hne
        simp only [Memory.read]
        rw [ih _ hr]
        by_cases hk : c.1 = k
        · have : a ≠ k := by omega
          simp [hk, this]
        · simp [hk]

/-- A byte reads as it was last written, and a write leaves every other byte alone. -/
theorem read_write (mem : List Host.Cell) (a : Nat) (v : Byte) (k : Nat) (h : Memory.wf mem = true) :
    Memory.read (Memory.write mem a v) k = if a = k then v else Memory.read mem k :=
  read_writeFrom none mem a v k h

/-- A stored sample reads back. -/
theorem readSample_writeSample (mem : List Host.Cell) (a : Nat) (v : Sample) (h : Memory.wf mem = true) :
    Memory.readSample (Memory.writeSample mem a v) a = v := by
  have h1 := write_wf mem a (highByte v) h
  unfold Memory.readSample Memory.writeSample
  rw [read_write _ _ _ _ h1, read_write _ _ _ _ h1, read_write _ _ _ _ h]
  simp only [if_true, show a + 1 ≠ a by omega, if_false]
  apply BitVec.eq_of_getLsbD_eq
  intro i hi
  simp only [highByte, lowByte, BitVec.getLsbD_append, BitVec.getLsbD_extractLsb']
  by_cases h8 : i < 8
  · simp [h8]
  · have : i - 8 < 8 := by omega
    have e : 8 + (i - 8) = i := by omega
    simp [h8, this, e]

/-- Storing a sample leaves every byte but its own two alone. -/
theorem read_writeSample_other (mem : List Host.Cell) (a : Nat) (v : Sample) (k : Nat) (h : Memory.wf mem = true)
    (hk : k ≠ a) (hk' : k ≠ a + 1) : Memory.read (Memory.writeSample mem a v) k = Memory.read mem k := by
  unfold Memory.writeSample
  rw [read_write _ _ _ _ (write_wf _ _ _ h), read_write _ _ _ _ h]
  simp [Ne.symm hk, Ne.symm hk']

end Sys2Proof.Machine
end

