-- ==== Sys2Proof/Laws/Buffer.lean ====
section
/-! SUPPORT. No block reads or writes the request buffer: every handler commutes with a change of it (R179). -/

namespace Sys2Proof.Machine

/-- The state with another request buffer. -/
def putBuffer (b : List BufferEntry) (s : State) : State := setLink (fun l => { l with buffer := b }) s

section
variable (b : List BufferEntry) (s : State)
@[simp] theorem put_settings : (putBuffer b s).settings = s.settings := rfl
@[simp] theorem put_routes : (putBuffer b s).routes = s.routes := rfl
@[simp] theorem put_programmes : (putBuffer b s).programmes = s.programmes := rfl
@[simp] theorem put_voice : (putBuffer b s).voice = s.voice := rfl
@[simp] theorem put_clips : (putBuffer b s).clips = s.clips := rfl
@[simp] theorem put_mixer : (putBuffer b s).mixer = s.mixer := rfl
@[simp] theorem put_emergency : (putBuffer b s).emergency = s.emergency := rfl
@[simp] theorem put_clock : (putBuffer b s).clock = s.clock := rfl
@[simp] theorem put_wake : (putBuffer b s).wake = s.wake := rfl
@[simp] theorem put_timer : (putBuffer b s).timer = s.timer := rfl
@[simp] theorem put_lanes : (putBuffer b s).lanes = s.lanes := rfl
@[simp] theorem put_berths : (putBuffer b s).berths = s.berths := rfl
@[simp] theorem put_test : (putBuffer b s).test = s.test := rfl
@[simp] theorem put_counters : (putBuffer b s).counters = s.counters := rfl
@[simp] theorem put_buffer : (putBuffer b s).link.buffer = b := rfl
@[simp] theorem put_notices : (putBuffer b s).link.notices = s.link.notices := rfl
@[simp] theorem put_dropped : (putBuffer b s).link.dropped = s.link.dropped := rfl
@[simp] theorem put_sending : (putBuffer b s).link.sending = s.link.sending := rfl
@[simp] theorem put_held : (putBuffer b s).link.held = s.link.held := rfl
@[simp] theorem put_orderCount : (putBuffer b s).orderCount = s.orderCount := rfl
@[simp] theorem put_pending : (putBuffer b s).pending = s.pending := rfl
@[simp] theorem put_put (b' : List BufferEntry) : putBuffer b (putBuffer b' s) = putBuffer b s := rfl
@[simp] theorem put_same : putBuffer s.link.buffer s = s := rfl
end

section
variable (b : List BufferEntry) (s : State)
@[simp] theorem setVoice_put (f : Voice → Voice) : setVoice f (putBuffer b s) = putBuffer b (setVoice f s) := rfl
@[simp] theorem setClock_put (f : Clock → Clock) : setClock f (putBuffer b s) = putBuffer b (setClock f s) := rfl
@[simp] theorem setEntries_put (f : List WakeEntry → List WakeEntry) :
    setEntries f (putBuffer b s) = putBuffer b (setEntries f s) := rfl
@[simp] theorem setStop_put (t : StopNo) (x : Stop) : setStop t x (putBuffer b s) = putBuffer b (setStop t x s) := rfl
@[simp] theorem setTimer_put (f : Timer → Timer) : setTimer f (putBuffer b s) = putBuffer b (setTimer f s) := rfl
@[simp] theorem setBerth_put (k : Berth) (f : BerthLink → BerthLink) :
    setBerth k f (putBuffer b s) = putBuffer b (setBerth k f s) := rfl
@[simp] theorem setLane_put (k : LaneNo) (f : Lane → Lane) :
    setLane k f (putBuffer b s) = putBuffer b (setLane k f s) := rfl
@[simp] theorem setProgramme_put (p : ProgrammeNo) (f : Programme → Programme) :
    setProgramme p f (putBuffer b s) = putBuffer b (setProgramme p f s) := rfl
@[simp] theorem setMixer_put (f : Mixer → Mixer) : setMixer f (putBuffer b s) = putBuffer b (setMixer f s) := rfl
@[simp] theorem raise_put (c : Counter) (n : Nat) : raise c n (putBuffer b s) = putBuffer b (raise c n s) := rfl
@[simp] theorem takeSnapshot_put : takeSnapshot (putBuffer b s) = putBuffer b (takeSnapshot s) := rfl

theorem Link.queue_put (l : Link) (n : Notice) :
    ({ l with buffer := b } : Link).queue n = { l.queue n with buffer := b } := by
  simp only [Link.queue_eq]

@[simp] theorem queueNotice_put (n : Notice) : queueNotice n (putBuffer b s) = putBuffer b (queueNotice n s) := by
  show ({ s with link := ({ s.link with buffer := b } : Link).queue n } : State) = _
  rw [Link.queue_put]; rfl

@[simp] theorem queueNotices_put (ns : List Notice) :
    queueNotices ns (putBuffer b s) = putBuffer b (queueNotices ns s) := by
  induction ns generalizing s with
  | nil => rfl
  | cons n ns ih =>
    show queueNotices ns (queueNotice n (putBuffer b s)) = _
    rw [queueNotice_put, ih]; rfl
end

/-- An operation commutes with a change of the request buffer. -/
def Blind (op : State → State) : Prop := ∀ b s, op (putBuffer b s) = putBuffer b (op s)

theorem Blind.comp {f g : State → State} (hf : Blind f) (hg : Blind g) : Blind fun s => f (g s) :=
  fun b s => (congrArg f (hg b s)).trans (hf b (g s))

theorem Blind.foldl {α : Type} {f : State → α → State} (hf : ∀ x, Blind fun s => f s x) (l : List α) :
    Blind fun s => l.foldl f s := by
  intro b s
  induction l generalizing s with
  | nil => rfl
  | cons x l ih => exact (congrArg (fun s => l.foldl f s) (hf x b s)).trans (ih (f s x))

/-- Two operations that commute commute under a condition. -/
theorem ite_put {c : Prop} {i j : Decidable c} {b : List BufferEntry} {x y x' y' : State}
    (hx : x' = putBuffer b x) (hy : y' = putBuffer b y) :
    @ite _ c i x' y' = putBuffer b (@ite _ c j x y) := by
  subst hx hy; by_cases h : c <;> simp [h]

/-- The same for operations that also answer. -/
theorem ite_answer {c : Prop} {i j : Decidable c} {α : Type} {b : List BufferEntry} {x y x' y' : State × α}
    (hx : x' = (putBuffer b x.1, x.2)) (hy : y' = (putBuffer b y.1, y.2)) :
    @ite _ c i x' y' = (putBuffer b (@ite _ c j x y).1, (@ite _ c j x y).2) := by
  subst hx hy; by_cases h : c <;> simp [h]

/-- An answer added to an operation that commutes. -/
theorem answer_put {α : Type} {b : List BufferEntry} {x x' : State} (a : α) (h : x' = putBuffer b x) :
    (x', a) = (putBuffer b (x, a).1, (x, a).2) := by rw [h]

/-! ## Voice channel -/

variable (b : List BufferEntry) (s : State)

theorem rearm_put : rearm (putBuffer b s) = putBuffer b (rearm s) := by
  unfold rearm; exact ite_put rfl rfl

theorem startRepeat_put (r : Announcement) : startRepeat r (putBuffer b s) = putBuffer b (startRepeat r s) := by
  unfold startRepeat; split <;> rfl

theorem endNotice_put (i : Byte) (e : EndReason) : endNotice i e (putBuffer b s) = putBuffer b (endNotice i e s) :=
  queueNotice_put b s _

theorem endActive_put (e : EndReason) (r : Announcement) :
    endActive e r (putBuffer b s) = putBuffer b (endActive e r s) :=
  endNotice_put b (setVoice (fun v => { v with active := none, readers := [] }) s) r.id e

theorem stackLimitMet_put (r : Announcement) :
    stackLimitMet r (putBuffer b s) = putBuffer b (stackLimitMet r s) := by
  unfold stackLimitMet; exact ite_put (by rw [setVoice_put, queueNotice_put]; rfl) rfl

theorem place_put (r : Announcement) :
    place r (putBuffer b s) = (putBuffer b (place r s).1, (place r s).2) := by
  unfold place
  refine ite_answer rfl ?_
  rw [put_voice]
  split
  · rfl
  · exact ite_answer (ite_answer rfl (answer_put _ (stackLimitMet_put b (joinWaiting r s) r))) rfl

theorem preemptionCheck_put : preemptionCheck (putBuffer b s) = putBuffer b (preemptionCheck s) := by
  unfold preemptionCheck
  rw [put_voice]
  split
  · rfl
  · dsimp only
    split
    · rfl
    · exact ite_put rfl rfl

theorem depthLimitChanged_put (o : Nat) :
    depthLimitChanged o (putBuffer b s) = putBuffer b (depthLimitChanged o s) := by
  unfold depthLimitChanged; rw [rearm_put]; exact ite_put (preemptionCheck_put b (rearm s)) rfl

theorem autoAnnounce_put (k : Berth) (n : Option ClipNo) :
    autoAnnounce k n (putBuffer b s) = (putBuffer b (autoAnnounce k n s).1, (autoAnnounce k n s).2) := by
  unfold autoAnnounce
  rw [show playableName n (putBuffer b s) = playableName n s from rfl, put_voice]
  split
  · rfl
  · split
    · rfl
    · exact ite_answer rfl (by rw [place_put])

/-! ## Clock and wake list -/

theorem evaluateNight_put : evaluateNight (putBuffer b s) = putBuffer b (evaluateNight s) := rfl

theorem evaluateWake_put : evaluateWake (putBuffer b s) = putBuffer b (evaluateWake s) := by
  unfold evaluateWake; exact ite_put (by dsimp only; rw [setEntries_put, queueNotices_put]; rfl) rfl

/-! ## Lanes and berths -/

theorem resetLaneBerths_put (l : LaneNo) :
    resetLaneBerths l (putBuffer b s) = putBuffer b (resetLaneBerths l s) := rfl

theorem reportChange_put (k : Berth) : reportChange k (putBuffer b s) = putBuffer b (reportChange k s) := by
  unfold reportChange; exact ite_put rfl (by rw [setBerth_put, queueNotice_put]; rfl)

theorem makeAbsent_put (k : Berth) : makeAbsent k (putBuffer b s) = putBuffer b (makeAbsent k s) := by
  unfold makeAbsent; exact ite_put (reportChange_put b (setBerth k _ s) k) rfl

theorem laneAbsent_put (l : LaneNo) : laneAbsent l (putBuffer b s) = putBuffer b (laneAbsent l s) :=
  Blind.foldl (f := fun s k => makeAbsent k s) (fun k b s => makeAbsent_put b s k) (berthsOf l) b s

/-! ## Settings -/

theorem settingEffects_put (i : Fin 17) (o : Settings) :
    settingEffects i o (putBuffer b s) = putBuffer b (settingEffects i o s) := by
  unfold settingEffects
  split
  · rfl
  · rfl
  · exact depthLimitChanged_put b s o.depthLimit
  · unfold autoSnapshotChanged; exact ite_put rfl rfl
  · rfl

/-! ## Handlers -/

/-- A handler commutes with a change of the request buffer. -/
def BlindHandler (h : State → State × Reply) : Prop :=
  ∀ b s, h (putBuffer b s) = (putBuffer b (h s).1, (h s).2)

theorem replied_put {h : State → State × Reply} (hb : BlindHandler h) :
    replied (h (putBuffer b s)) = (putBuffer b (replied (h s)).1, (replied (h s)).2) := by
  rw [hb]; rfl

theorem settingSet_blind (n : Byte) (v : BitVec 16) : BlindHandler (handleSettingSet n v) := by
  intro b s; unfold handleSettingSet; split
  · rfl
  · exact answer_put _ (settingEffects_put b { s with settings := _ } _ s.settings)

theorem settingGet_blind (n : Byte) : BlindHandler (handleSettingGet n) := by
  intro b s; unfold handleSettingGet; split <;> rfl

theorem routeSet_put (set : BerthSet) (p l c cd v sp now : Byte) :
    handleRouteSet set p l c cd v sp now (putBuffer b s) =
      (putBuffer b (handleRouteSet set p l c cd v sp now s).1, (handleRouteSet set p l c cd v sp now s).2) := by
  unfold handleRouteSet; split
  · exact ite_answer rfl rfl
  · rfl

theorem routeGet_blind (k : Byte) : BlindHandler (handleRouteGet k) := by
  intro b s; unfold handleRouteGet; split <;> rfl

theorem berthStatus_blind (k : Byte) : BlindHandler (handleBerthStatus k) := by
  intro b s; unfold handleBerthStatus; split <;> rfl

theorem programmeSet_blind (p n : Byte) : BlindHandler (handleProgrammeSet p n) := by
  intro b s; unfold handleProgrammeSet; split
  · rfl
  · exact ite_answer rfl rfl

theorem programmeStatus_blind (p : Byte) : BlindHandler (handleProgrammeStatus p) := by
  intro b s; unfold handleProgrammeStatus; split <;> rfl

theorem referenceSet_blind (r : Byte) : BlindHandler (handleReferenceSet r) := by
  intro b s; unfold handleReferenceSet; split
  · rfl
  · exact ite_answer rfl rfl

theorem announce_blind (i c o cl : Byte) (set : BerthSet) (n cd : Byte) :
    BlindHandler (handleAnnounce i c o cl set n cd) := by
  intro b s; unfold handleAnnounce
  refine ite_answer rfl ?_
  split
  · refine ite_answer rfl (ite_answer rfl (ite_answer rfl (ite_answer rfl ?_)))
    simp only [place_put]
  · rfl

theorem annEnd_blind (i : Byte) : BlindHandler (handleAnnEnd i) := by
  intro b s; unfold handleAnnEnd; rw [put_voice]; split
  · exact ite_answer (ite_answer rfl rfl) (ite_answer rfl rfl)
  · exact ite_answer rfl rfl

theorem withdrawOther_blind (i : Byte) : BlindHandler (withdrawOther i) := by
  intro b s; unfold withdrawOther; rw [put_voice]; split
  · exact ite_answer rfl rfl
  · exact ite_answer (answer_put _ (by rw [setVoice_put, endNotice_put])) rfl

theorem annWithdraw_blind (i : Byte) : BlindHandler (handleAnnWithdraw i) := by
  intro b s; unfold handleAnnWithdraw; rw [put_voice]; split
  · exact ite_answer (ite_answer rfl rfl) (withdrawOther_blind i b s)
  · exact withdrawOther_blind i b s

theorem clipOpen_blind (c v : Byte) (n : BitVec 32) : BlindHandler (handleClipOpen c v n) := by
  intro b s; unfold handleClipOpen; split
  · exact ite_answer rfl (ite_answer rfl (ite_answer rfl rfl))
  · rfl

theorem clipData_blind (c v : Byte) (o : BitVec 32) (n : BitVec 16) (xs : List Sample) :
    BlindHandler (handleClipData c v o n xs) := by
  intro b s; unfold handleClipData; split
  · exact ite_answer rfl (ite_answer rfl (ite_answer rfl (ite_answer rfl rfl)))
  · rfl

theorem clipAbort_blind (c v : Byte) : BlindHandler (handleClipAbort c v) := by
  intro b s; unfold handleClipAbort; split
  · exact ite_answer rfl rfl
  · rfl

theorem clipDelete_blind (c : Byte) : BlindHandler (handleClipDelete c) := by
  intro b s; unfold handleClipDelete; split
  · rfl
  · simp only [put_clips, put_voice]
    generalize s.clips.freeClip _ = x
    exact ite_answer rfl rfl

theorem clipInfo_blind (c : Byte) : BlindHandler (handleClipInfo c) := by
  intro b s; unfold handleClipInfo; split
  · rfl
  · simp only [put_clips, put_voice]

theorem clockSet_blind (d h m sec : Byte) : BlindHandler (handleClockSet d h m sec) := by
  intro b s; unfold handleClockSet
  exact ite_answer rfl (answer_put _ (by rw [setClock_put, evaluateNight_put, evaluateWake_put]))

theorem stopSet_blind (t : Byte) (e : BitVec 16) (n : Byte) : BlindHandler (handleStopSet t e n) := by
  intro b s; unfold handleStopSet; split
  · exact ite_answer rfl (answer_put _ (by rw [setStop_put, setEntries_put, evaluateWake_put]))
  · rfl

theorem stopPassed_blind (t : Byte) : BlindHandler (handleStopPassed t) := by
  intro b s; unfold handleStopPassed; split
  · rfl
  · exact ite_answer (answer_put _ (by rw [setStop_put, setEntries_put, queueNotices_put]; rfl)) rfl

theorem stopClear_blind (t : Byte) : BlindHandler (handleStopClear t) := by
  intro b s; unfold handleStopClear; split
  · rfl
  · exact ite_answer rfl rfl

theorem wakeSet_blind (k t l : Byte) : BlindHandler (handleWakeSet k t l) := by
  intro b s; unfold handleWakeSet; split
  · refine ite_answer ?_ rfl
    dsimp only
    rw [setEntries_put, evaluateWake_put]; rfl
  · rfl

theorem wakeCancel_blind (k : Byte) : BlindHandler (handleWakeCancel k) := by
  intro b s; unfold handleWakeCancel; split
  · rfl
  · exact ite_answer rfl rfl

theorem emergencyClear_blind : BlindHandler handleEmergencyClear := by
  intro b s; unfold handleEmergencyClear; exact ite_answer rfl (ite_answer rfl rfl)

theorem laneSet_blind (l e : Byte) : BlindHandler (handleLaneSet l e) := by
  intro b s; unfold handleLaneSet; rw [put_lanes]; split
  · split
    · exact answer_put _ (by unfold laneNotice; rw [setLane_put, queueNotice_put])
    · rfl
    · rfl
  · split
    · rfl
    · exact answer_put _ (by unfold laneNotice; rw [setLane_put, queueNotice_put])
    · refine answer_put _ ?_
      rw [setLane_put]; unfold laneNotice; rw [queueNotice_put, laneAbsent_put]
  · rfl

theorem laneReset_blind (l : Byte) : BlindHandler (handleLaneReset l) := by
  intro b s; unfold handleLaneReset; split
  · rfl
  · exact answer_put _ (ite_put rfl (by unfold laneNotice; rw [setLane_put, resetLaneBerths_put, queueNotice_put]; rfl))

theorem laneTestStart_blind (set : BerthSet) : BlindHandler (handleLaneTestStart set) := by
  intro b s; unfold handleLaneTestStart; exact ite_answer rfl (ite_answer rfl (ite_answer rfl rfl))

theorem laneTestStop_blind : BlindHandler handleLaneTestStop := by
  intro b s; unfold handleLaneTestStop; exact ite_answer rfl rfl

theorem countersRead_blind (g f n : Byte) : BlindHandler (handleCountersRead g f n) := by
  intro b s; unfold handleCountersRead; split
  · rfl
  · exact ite_answer rfl rfl

/-- Passing a request on neither reads nor writes the request buffer. -/
theorem passOn_put (r : Request) (p : List Byte) :
    passOn r p (putBuffer b s) = (putBuffer b (passOn r p s).1, (passOn r p s).2) := by
  cases r <;> unfold passOn <;> dsimp only
  case status | restart | curveSet | curveGet | take | annList | clockGet | stopList | wakeList | countersSnapshot =>
    rfl
  case settingSet => exact replied_put b s (settingSet_blind _ _)
  case settingGet => exact replied_put b s (settingGet_blind _)
  case routeSet => exact routeSet_put b s _ _ _ _ _ _ _ _
  case routeGet => exact replied_put b s (routeGet_blind _)
  case berthStatus => exact replied_put b s (berthStatus_blind _)
  case programmeSet => exact replied_put b s (programmeSet_blind _ _)
  case programmeStatus => exact replied_put b s (programmeStatus_blind _)
  case referenceSet => exact replied_put b s (referenceSet_blind _)
  case announce => exact replied_put b s (announce_blind _ _ _ _ _ _ _)
  case annEnd => exact replied_put b s (annEnd_blind _)
  case annWithdraw => exact replied_put b s (annWithdraw_blind _)
  case clipOpen => exact replied_put b s (clipOpen_blind _ _ _)
  case clipData => exact replied_put b s (clipData_blind _ _ _ _ _)
  case clipAbort => exact replied_put b s (clipAbort_blind _ _)
  case clipDelete => exact replied_put b s (clipDelete_blind _)
  case clipInfo => exact replied_put b s (clipInfo_blind _)
  case clockSet => exact replied_put b s (clockSet_blind _ _ _ _)
  case stopSet => exact replied_put b s (stopSet_blind _ _ _)
  case stopPassed => exact replied_put b s (stopPassed_blind _)
  case stopClear => exact replied_put b s (stopClear_blind _)
  case wakeSet => exact replied_put b s (wakeSet_blind _ _ _)
  case wakeCancel => exact replied_put b s (wakeCancel_blind _)
  case emergencyClear => exact replied_put b s emergencyClear_blind
  case laneSet => exact replied_put b s (laneSet_blind _ _)
  case laneReset => exact replied_put b s (laneReset_blind _)
  case laneTestStart => exact replied_put b s (laneTestStart_blind _)
  case laneTestStop => exact replied_put b s laneTestStop_blind
  case countersRead => exact replied_put b s (countersRead_blind _ _ _)

/-- Handling a request neither reads nor writes the request buffer. -/
theorem handle_put (f : LinkFrame) : handle f (putBuffer b s) = (putBuffer b (handle f s).1, (handle f s).2) := by
  unfold handle
  split
  · rfl
  · exact ite_answer (passOn_put b s _ _) rfl

end Sys2Proof.Machine
end

