-- ==== Sys2Proof/Laws/Clips.lean ====
section
/-! SUPPORT. What the clip store's operations do to the table and to the free set (R67, R76, R78, R70). -/

namespace Sys2Proof.Machine

/-! ## The table -/

theorem setVariant_variant (c : Clips) (k : ClipNo) (v : Fin 4) (x : Variant) (k' : ClipNo) (v' : Fin 4) :
    (c.setVariant k v x).variant k' v' = if k = k' ∧ v = v' then x else c.variant k' v' := by
  unfold Clips.setVariant Clips.variant
  dsimp only
  rw [amend_get]
  by_cases hk : k = k'
  · subst hk
    simp [Vector.getElem_set, Fin.ext_iff]
  · simp [hk]

@[simp] theorem setVariant_free (c : Clips) (k : ClipNo) (v : Fin 4) (x : Variant) :
    (c.setVariant k v x).free = c.free := rfl

@[simp] theorem setVariant_mem (c : Clips) (k : ClipNo) (v : Fin 4) (x : Variant) :
    (c.setVariant k v x).mem = c.mem := rfl

/-! ## Blocks that return to the free set -/

theorem mem_insertBlock (free : List Nat) (b n : Nat) : n ∈ insertBlock free b ↔ n ∈ free ∨ n = b := by
  induction free with
  | nil => simp [insertBlock]
  | cons f free ih =>
    unfold insertBlock
    split
    · simp only [List.mem_cons]; tauto
    · split
      · rename_i h; subst h; simp only [List.mem_cons]; tauto
      · simp only [List.mem_cons, ih]; tauto

theorem mem_insertBlocks (chain free : List Nat) (n : Nat) :
    n ∈ chain.foldl insertBlock free ↔ n ∈ free ∨ n ∈ chain := by
  induction chain generalizing free with
  | nil => simp
  | cons b chain ih => rw [List.foldl_cons, ih, mem_insertBlock, List.mem_cons]; tauto

theorem insertBlock_ordered {free : List Nat} (b : Nat) (h : free.Pairwise (· < ·)) :
    (insertBlock free b).Pairwise (· < ·) := by
  induction free with
  | nil => exact List.pairwise_singleton _ _
  | cons f free ih =>
    rw [List.pairwise_cons] at h
    unfold insertBlock
    split
    · rename_i hb
      refine List.pairwise_cons.2 ⟨?_, List.pairwise_cons.2 h⟩
      intro a ha
      rcases List.mem_cons.1 ha with rfl | ha
      · exact hb
      · exact lt_trans hb (h.1 a ha)
    · split
      · exact List.pairwise_cons.2 h
      · refine List.pairwise_cons.2 ⟨fun a ha => ?_, ih h.2⟩
        rcases (mem_insertBlock _ _ _).1 ha with ha | rfl
        · exact h.1 a ha
        · omega

theorem insertBlocks_ordered (chain : List Nat) {free : List Nat} (h : free.Pairwise (· < ·)) :
    (chain.foldl insertBlock free).Pairwise (· < ·) := by
  induction chain generalizing free with
  | nil => exact h
  | cons b chain ih => exact ih (insertBlock_ordered b h)

/-! ## Freeing -/

theorem freeVariant_variant (c : Clips) (k : ClipNo) (v : Fin 4) (k' : ClipNo) (v' : Fin 4) :
    (c.freeVariant k v).variant k' v' = if k = k' ∧ v = v' then {} else c.variant k' v' :=
  setVariant_variant c k v {} k' v'

theorem mem_freeVariant_free (c : Clips) (k : ClipNo) (v : Fin 4) (n : Nat) :
    n ∈ (c.freeVariant k v).free ↔ n ∈ c.free ∨ n ∈ (c.variant k v).chain := mem_insertBlocks _ _ _

@[simp] theorem freeVariant_mem (c : Clips) (k : ClipNo) (v : Fin 4) : (c.freeVariant k v).mem = c.mem := rfl

/-- The variants of a list freed one after the other, when they satisfy p: what RESTART and CLIP_DELETE do. -/
def freeWhere (p : Variant → Bool) (l : List (ClipNo × Fin 4)) (c : Clips) : Clips :=
  l.foldl (fun c x => if p (c.variant x.1 x.2) then c.freeVariant x.1 x.2 else c) c

/-- What freeing the variants of a list that satisfy p does, when p holds of no EMPTY variant. -/
theorem freeWhere_spec {p : Variant → Bool} (hp : p {} = false) (l : List (ClipNo × Fin 4)) (c : Clips) :
    (∀ k v, (freeWhere p l c).variant k v = if (k, v) ∈ l ∧ p (c.variant k v) = true then {} else c.variant k v) ∧
    (∀ n, n ∈ (freeWhere p l c).free ↔
      n ∈ c.free ∨ ∃ k v, (k, v) ∈ l ∧ p (c.variant k v) = true ∧ n ∈ (c.variant k v).chain) ∧
    (freeWhere p l c).mem = c.mem := by
  induction l generalizing c with
  | nil => simp [freeWhere]
  | cons x l ih =>
    obtain ⟨k0, v0⟩ := x
    have step : freeWhere p ((k0, v0) :: l) c =
        freeWhere p l (if p (c.variant k0 v0) then c.freeVariant k0 v0 else c) := rfl
    rw [step]
    by_cases h0 : p (c.variant k0 v0) = true
    · rw [if_pos h0]
      obtain ⟨i1, i2, i3⟩ := ih (c.freeVariant k0 v0)
      refine ⟨fun k v => ?_, fun n => ?_, i3⟩
      · rw [i1, freeVariant_variant]
        by_cases he : k0 = k ∧ v0 = v
        · obtain ⟨rfl, rfl⟩ := he; simp [h0]
        · have : ¬ (k = k0 ∧ v = v0) := fun h => he ⟨h.1.symm, h.2.symm⟩
          simp [he, this]
      · rw [i2, mem_freeVariant_free]
        constructor
        · rintro ((h | h) | ⟨k, v, hm, hpv, hn⟩)
          · exact .inl h
          · exact .inr ⟨k0, v0, by simp, h0, h⟩
          · rw [freeVariant_variant] at hpv hn
            by_cases he : k0 = k ∧ v0 = v
            · rw [if_pos he, hp] at hpv; cases hpv
            · rw [if_neg he] at hpv hn
              exact .inr ⟨k, v, List.mem_cons_of_mem _ hm, hpv, hn⟩
        · rintro (h | ⟨k, v, hm, hpv, hn⟩)
          · exact .inl (.inl h)
          · by_cases he : k0 = k ∧ v0 = v
            · obtain ⟨rfl, rfl⟩ := he; exact .inl (.inr hn)
            · refine .inr ⟨k, v, ?_, ?_, ?_⟩
              · rcases List.mem_cons.1 hm with h | h
                · cases h; exact absurd ⟨rfl, rfl⟩ he
                · exact h
              · rw [freeVariant_variant, if_neg he]; exact hpv
              · rw [freeVariant_variant, if_neg he]; exact hn
    · rw [if_neg h0]
      obtain ⟨i1, i2, i3⟩ := ih c
      refine ⟨fun k v => ?_, fun n => ?_, i3⟩
      · rw [i1]
        by_cases he : k = k0 ∧ v = v0
        · obtain ⟨rfl, rfl⟩ := he; simp [h0]
        · simp [he]
      · rw [i2]
        constructor
        · rintro (h | ⟨k, v, hm, hpv, hn⟩)
          · exact .inl h
          · exact .inr ⟨k, v, List.mem_cons_of_mem _ hm, hpv, hn⟩
        · rintro (h | ⟨k, v, hm, hpv, hn⟩)
          · exact .inl h
          · refine .inr ⟨k, v, ?_, hpv, hn⟩
            rcases List.mem_cons.1 hm with h | h
            · cases h; exact absurd hpv h0
            · exact h

/-- CLIP_DELETE's freeing, as a run over variants of the clip. -/
theorem freeClip_run (vs : List (Fin 4)) (c : Clips) (k : ClipNo) :
    vs.foldl (fun c v => if (c.variant k v).state = .empty then c else c.freeVariant k v) c =
      freeWhere (fun x => x.state != .empty) (vs.map fun v => (k, v)) c := by
  unfold freeWhere
  induction vs generalizing c with
  | nil => rfl
  | cons v vs ih =>
    rw [List.foldl_cons, List.map_cons, List.foldl_cons, ih]
    by_cases h : (c.variant k v).state = .empty <;> simp [h]

/-- RESTART's freeing, as a run over the variants of clips. -/
theorem restart_run (ks : List ClipNo) (vs : List (Fin 4)) (c : Clips) :
    ks.foldl (fun c k => vs.foldl (fun c v =>
        if (c.variant k v).state = .loading then c.freeVariant k v else c) c) c =
      freeWhere (fun x => x.state == .loading) (ks.flatMap fun k => vs.map fun v => (k, v)) c := by
  have inner (vs : List (Fin 4)) (k : ClipNo) (c : Clips) :
      vs.foldl (fun c v => if (c.variant k v).state = .loading then c.freeVariant k v else c) c =
        freeWhere (fun x => x.state == .loading) (vs.map fun v => (k, v)) c := by
    unfold freeWhere
    induction vs generalizing c with
    | nil => rfl
    | cons v vs ih =>
      rw [List.foldl_cons, List.map_cons, List.foldl_cons, ih]
      by_cases h : (c.variant k v).state = .loading <;> simp [h]
  induction ks generalizing c with
  | nil => rfl
  | cons k ks ih =>
    rw [List.foldl_cons, ih, inner, List.flatMap_cons]
    unfold freeWhere
    rw [List.foldl_append]

theorem mem_variants (v : Fin 4) : v ∈ variants := List.mem_finRange v

/-- What CLIP_DELETE frees (R78). -/
theorem freeClip_spec (c : Clips) (k : ClipNo) :
    (∀ k' v, (c.freeClip k).variant k' v =
      if k' = k ∧ (c.variant k' v).state ≠ .empty then {} else c.variant k' v) ∧
    (∀ n, n ∈ (c.freeClip k).free ↔
      n ∈ c.free ∨ ∃ v, (c.variant k v).state ≠ .empty ∧ n ∈ (c.variant k v).chain) ∧
    (c.freeClip k).mem = c.mem := by
  have hm (k' : ClipNo) (v : Fin 4) : (k', v) ∈ (variants.map fun v => (k, v)) ↔ k' = k := by
    rw [List.mem_map]
    constructor
    · rintro ⟨w, -, h⟩; exact (congrArg Prod.fst h).symm
    · rintro rfl; exact ⟨v, mem_variants v, rfl⟩
  have h := freeWhere_spec (p := fun x => x.state != .empty) rfl (variants.map fun v => (k, v)) c
  rw [← freeClip_run] at h
  obtain ⟨h1, h2, h3⟩ := h
  refine ⟨fun k' v => (h1 k' v).trans ?_, fun n => (h2 n).trans ?_, h3⟩
  · simp only [hm, bne_iff_ne]
  · simp only [hm, bne_iff_ne]
    constructor
    · rintro (h | ⟨_, v, rfl, h⟩)
      · exact .inl h
      · exact .inr ⟨v, h⟩
    · rintro (h | ⟨v, h⟩)
      · exact .inl h
      · exact .inr ⟨k, v, rfl, h⟩

/-- What RESTART frees (R70). -/
theorem restart_spec (c : Clips) :
    (∀ k v, c.restart.variant k v = if (c.variant k v).state = .loading then {} else c.variant k v) ∧
    (∀ n, n ∈ c.restart.free ↔
      n ∈ c.free ∨ ∃ k v, (c.variant k v).state = .loading ∧ n ∈ (c.variant k v).chain) ∧
    c.restart.mem = c.mem := by
  have hm (k : ClipNo) (v : Fin 4) :
      (k, v) ∈ (List.finRange 64).flatMap fun k => variants.map fun v => (k, v) :=
    List.mem_flatMap.2 ⟨k, List.mem_finRange k, List.mem_map.2 ⟨v, mem_variants v, rfl⟩⟩
  have h := freeWhere_spec (p := fun x => x.state == .loading) rfl
    ((List.finRange 64).flatMap fun k => variants.map fun v => (k, v)) c
  rw [← restart_run] at h
  obtain ⟨h1, h2, h3⟩ := h
  refine ⟨fun k v => (h1 k v).trans ?_, fun n => (h2 n).trans ?_, h3⟩
  · simp only [hm k v, true_and, beq_iff_eq]
  · simp only [hm, true_and, beq_iff_eq]

end Sys2Proof.Machine
end

