-- ==== Sys2Proof/Laws/Link.lean ====
section
/-! SUPPORT. The control link: what settling does, and what the arrival of a request comes to when it is handled
at once, when it waits and when it finds the buffer full (R179, R180, R182). -/

namespace Sys2Proof.Machine

/-- A handler leaves the request buffer alone. -/
theorem handle_buffer (f : LinkFrame) (s : State) : (handle f s).1.link.buffer = s.link.buffer := by
  have h := handle_put s.link.buffer s f
  rw [put_same] at h
  rw [h]; rfl

/-! ## Hand-over -/

theorem takeOldest_none {buffer : List BufferEntry} (h : ∀ e ∈ buffer, e.state ≠ .waiting) :
    takeOldest buffer = none := by
  induction buffer with
  | nil => rfl
  | cons e rest ih =>
    have he := h e (by simp)
    rw [takeOldest, if_neg he, ih (fun x hx => h x (by simp [hx]))]

theorem takeOldest_back {buffer : List BufferEntry} (h : ∀ e ∈ buffer, e.state ≠ .waiting) (f : LinkFrame) :
    takeOldest (buffer ++ [{ frame := f, state := .waiting }]) =
      some (f, buffer ++ [{ frame := f, state := .inHand }]) := by
  induction buffer with
  | nil => simp [takeOldest]
  | cons e rest ih =>
    have he := h e (by simp)
    rw [List.cons_append, takeOldest, if_neg he, ih (fun x hx => h x (by simp [hx]))]
    rfl

theorem serveFor_quiet (n : Nat) (s : State) (h : LinkQuiet s) : serveFor n s = s := by
  cases n with
  | zero => rfl
  | succ n =>
    rcases h with h | h
    · rw [serveFor, if_pos h]
    · rw [serveFor, takeOldest_none h]; split <;> rfl

/-- With nothing to hand over, settling is the transmitter's choice alone. -/
theorem settle_quiet (s : State) (h : LinkQuiet s) : settle s = s.sent := by
  unfold settle serve State.sent; rw [serveFor_quiet _ _ h]

/-- A change of the other blocks and of the rest of the link keeps the hand-over as it was. -/
theorem LinkQuiet.of_buffer {s t : State} (h : LinkQuiet s) (hb : t.link.buffer = s.link.buffer) : LinkQuiet t := by
  unfold LinkQuiet; rw [hb]; exact h

theorem LinkReady.quiet {s : State} (h : LinkReady s) : LinkQuiet s := .inr fun e he => (h.2 e he).1

theorem handOverHeld_ready {s : State} (h : LinkReady s) : handOverHeld s.link.buffer = false := by
  unfold handOverHeld
  rw [List.any_eq_false]
  intro e he
  have := h.2 e he
  simp [this.2.1, this.2.2]

/-- The oldest WAITING entry, whatever stands ahead of it and behind it, is taken in hand. -/
theorem takeOldest_front {ahead : List BufferEntry} (h : ∀ e ∈ ahead, e.state ≠ .waiting) (f : LinkFrame)
    (behind : List BufferEntry) :
    takeOldest (ahead ++ { frame := f, state := .waiting } :: behind) =
      some (f, ahead ++ { frame := f, state := .inHand } :: behind) := by
  induction ahead with
  | nil => simp [takeOldest]
  | cons e rest ih =>
    rw [List.cons_append, takeOldest, if_neg (h e (by simp)), ih (fun x hx => h x (by simp [hx]))]
    rfl

/-- How many entries of a request buffer wait. -/
def waits (buffer : List BufferEntry) : Nat := buffer.countP fun e => e.state == .waiting

theorem waits_le (buffer : List BufferEntry) : waits buffer ≤ buffer.length := List.countP_le_length

/-- Taking the oldest WAITING entry in hand leaves one fewer that waits. -/
theorem waits_takeOldest {buffer rest : List BufferEntry} {f : LinkFrame} (h : takeOldest buffer = some (f, rest)) :
    waits buffer = waits rest + 1 := by
  unfold waits
  induction buffer generalizing rest with
  | nil => cases h
  | cons e es ih =>
    rw [takeOldest] at h
    split at h
    · rename_i he
      cases h
      simp [he]
    · rename_i he
      split at h
      · cases h
      · rename_i hx
        cases h
        simp [he, ih hx]

/-- An answer changes no entry that waits. -/
theorem waits_answerInHand (r : Reply) (s : State) : waits (answerInHand r s).link.buffer = waits s.link.buffer := by
  unfold waits answerInHand setLink
  dsimp only
  rw [List.countP_map]
  congr 1
  funext e
  by_cases h : e.state = .inHand <;> simp [h]

/-- Handing over is bounded by the entries that wait: a greater bound changes nothing. -/
theorem serveFor_enough (n m : Nat) (s : State) (hn : waits s.link.buffer ≤ n) (hm : waits s.link.buffer ≤ m) :
    serveFor n s = serveFor m s := by
  have quiet : ∀ s : State, waits s.link.buffer = 0 → LinkQuiet s := by
    intro s h
    refine .inr fun e he hw => ?_
    have := List.countP_eq_zero.mp h e he
    simp [hw] at this
  induction n generalizing m s with
  | zero =>
    have := quiet s (by omega)
    rw [serveFor_quiet _ _ this, serveFor_quiet _ _ this]
  | succ n ih =>
    cases m with
    | zero =>
      have := quiet s (by omega)
      rw [serveFor_quiet _ _ this, serveFor_quiet _ _ this]
    | succ m =>
      unfold serveFor
      split
      · rfl
      · split
        · rfl
        · rename_i f buffer ht
          have hw := waits_takeOldest ht
          have hb := handle_buffer f (setLink (fun l => { l with buffer := buffer }) s)
          split <;> rename_i hx <;> rw [hx] at hb
          · refine ih _ _ ?_ ?_ <;> rw [waits_answerInHand, hb] <;> simp only [setLink] <;> omega

/-! ## Arrival of a request -/

/-- With no room in the buffer the request is dropped and counted (R179). -/
theorem request_full (f : LinkFrame) (s : State) (h : 8 ≤ s.link.buffer.length) :
    requestArrives f s = settle (raise .droppedRequests 1 s) := by
  unfold requestArrives receiveFrame bufferCapacity; rw [if_neg (by omega)]

/-- A request that finds the hand-over held joins the buffer as WAITING, and nothing is handed over (R180). -/
theorem request_waits (f : LinkFrame) (s : State) (h : s.link.buffer.length < 8)
    (hh : handOverHeld s.link.buffer = true) :
    requestArrives f s =
      (putBuffer (s.link.buffer ++ [{ frame := f, state := .waiting }]) s).sent := by
  unfold requestArrives receiveFrame bufferCapacity; rw [if_pos h]
  refine settle_quiet _ (.inl ?_)
  simp only [setLink, handOverHeld, List.any_append, Bool.or_eq_true] at hh ⊢
  exact .inl hh

theorem serveFor_one {n : Nat} {s : State} {f : LinkFrame} {buffer : List BufferEntry}
    (hh : handOverHeld s.link.buffer = false) (ht : takeOldest s.link.buffer = some (f, buffer)) :
    serveFor (n + 1) s =
      match handle f (putBuffer buffer s) with
      | (s', .reply r) => serveFor n (answerInHand r s')
      | (s', .held) => s' := by
  rw [serveFor, hh, ht]; rfl

/-- A request that is handed over at once is handled on the state as it stands; its entry is then ANSWERED, or
stays in hand (R180). -/
theorem request_ready (f : LinkFrame) (s : State) (h : LinkReady s) :
    requestArrives f s =
      match handle f s with
      | (s', .reply r) => s'.answered f r
      | (s', .held) => s'.inHand f := by
  have hw : ∀ e ∈ s.link.buffer, e.state ≠ .waiting := fun e he => (h.2 e he).1
  have hlt := h.1
  unfold requestArrives receiveFrame
  rw [if_pos hlt]
  show settle (putBuffer (s.link.buffer ++ [{ frame := f, state := .waiting }]) s) = _
  unfold settle serve
  rw [put_buffer, List.length_append, List.length_singleton]
  have hh : handOverHeld (s.link.buffer ++ [{ frame := f, state := .waiting }]) = false := by
    have h1 := handOverHeld_ready h
    unfold handOverHeld at h1 ⊢
    rw [List.any_append, h1]
    simp [BufferEntry.isRestart]
  rw [serveFor_one (s := putBuffer _ s) hh (takeOldest_back hw f), put_put, handle_put]
  have hb := handle_buffer f s
  rcases hx : handle f s with ⟨s', r | _⟩
  · rw [hx] at hb
    dsimp only at hb ⊢
    have hmap : answerInHand r (putBuffer (s.link.buffer ++ [{ frame := f, state := .inHand }]) s') =
        putBuffer (s'.link.buffer ++ [{ frame := f, state := .answered r }]) s' := by
      show putBuffer _ s' = putBuffer _ s'
      congr 1
      rw [hb, put_buffer, List.map_append]
      congr 1
      rw [List.map_congr_left (g := id), List.map_id]
      intro e he
      rw [if_neg (h.2 e he).2.1]; rfl
    rw [hmap]
    rw [serveFor_quiet]
    · rfl
    · refine .inr fun e he => ?_
      rw [put_buffer, hb, List.mem_append, List.mem_singleton] at he
      rcases he with he | rfl
      · exact hw e he
      · simp
  · rw [hx] at hb
    dsimp only at hb ⊢
    unfold State.inHand State.sent
    rw [← hb]; rfl

end Sys2Proof.Machine
end

