-- ==== Sys2Proof/Laws/Frame.lean ====
section
/-! SUPPORT. Which fields each block's work at a lane frame start leaves alone, and which fields the events leave
alone. -/

namespace Sys2Proof.Machine

/-- A quantity that each act keeps is kept by acts one after the other. -/
theorem foldl_keeps {α β : Type} (g : State → β) {f : State → α → State} (h : ∀ s x, g (f s x) = g s) (l : List α)
    (s : State) : g (l.foldl f s) = g s := by
  induction l generalizing s with
  | nil => rfl
  | cons x l ih => exact (ih (f s x)).trans (h s x)

@[simp] theorem queueNotice_keeps (n : Notice) (s : State) :
      (queueNotice n s).settings = s.settings ∧ (queueNotice n s).routes = s.routes ∧ (queueNotice n s).programmes = s.programmes ∧
      (queueNotice n s).voice = s.voice ∧ (queueNotice n s).clips = s.clips ∧ (queueNotice n s).mixer = s.mixer ∧
      (queueNotice n s).emergency = s.emergency ∧ (queueNotice n s).clock = s.clock ∧ (queueNotice n s).wake = s.wake ∧
      (queueNotice n s).timer = s.timer ∧ (queueNotice n s).lanes = s.lanes ∧ (queueNotice n s).berths = s.berths ∧
      (queueNotice n s).test = s.test ∧ (queueNotice n s).counters = s.counters ∧ (queueNotice n s).orderCount = s.orderCount ∧
      (queueNotice n s).pending = s.pending := by
  simp

@[simp] theorem queueNotices_keeps (ns : List Notice) (s : State) :
      (queueNotices ns s).settings = s.settings ∧ (queueNotices ns s).routes = s.routes ∧ (queueNotices ns s).programmes = s.programmes ∧
      (queueNotices ns s).voice = s.voice ∧ (queueNotices ns s).clips = s.clips ∧ (queueNotices ns s).mixer = s.mixer ∧
      (queueNotices ns s).emergency = s.emergency ∧ (queueNotices ns s).clock = s.clock ∧ (queueNotices ns s).wake = s.wake ∧
      (queueNotices ns s).timer = s.timer ∧ (queueNotices ns s).lanes = s.lanes ∧ (queueNotices ns s).berths = s.berths ∧
      (queueNotices ns s).test = s.test ∧ (queueNotices ns s).counters = s.counters ∧ (queueNotices ns s).orderCount = s.orderCount ∧
      (queueNotices ns s).pending = s.pending := by
  simp [queueNotices_eq]

/-! ## Programme inputs -/

@[simp] theorem stall_keeps (p : ProgrammeNo) (s : State) :
      (stall p s).settings = s.settings ∧ (stall p s).routes = s.routes ∧ (stall p s).voice = s.voice ∧
      (stall p s).clips = s.clips ∧ (stall p s).mixer = s.mixer ∧ (stall p s).emergency = s.emergency ∧
      (stall p s).clock = s.clock ∧ (stall p s).wake = s.wake ∧ (stall p s).timer = s.timer ∧
      (stall p s).lanes = s.lanes ∧ (stall p s).berths = s.berths ∧ (stall p s).test = s.test ∧
      (stall p s).orderCount = s.orderCount ∧ (stall p s).pending = s.pending := by
  simp [stall]

@[simp] theorem countInterval_keeps (p : ProgrammeNo) (s : State) :
      (countInterval p s).settings = s.settings ∧ (countInterval p s).routes = s.routes ∧ (countInterval p s).voice = s.voice ∧
      (countInterval p s).clips = s.clips ∧ (countInterval p s).mixer = s.mixer ∧ (countInterval p s).emergency = s.emergency ∧
      (countInterval p s).clock = s.clock ∧ (countInterval p s).wake = s.wake ∧ (countInterval p s).timer = s.timer ∧
      (countInterval p s).lanes = s.lanes ∧ (countInterval p s).berths = s.berths ∧ (countInterval p s).test = s.test ∧
      (countInterval p s).orderCount = s.orderCount ∧ (countInterval p s).pending = s.pending := by
  unfold countInterval; dsimp only; split
  · split <;> simp
  · simp

@[simp] theorem countGap_keeps (p : ProgrammeNo) (s : State) :
      (countGap p s).settings = s.settings ∧ (countGap p s).routes = s.routes ∧ (countGap p s).programmes = s.programmes ∧
      (countGap p s).voice = s.voice ∧ (countGap p s).clips = s.clips ∧ (countGap p s).mixer = s.mixer ∧
      (countGap p s).emergency = s.emergency ∧ (countGap p s).clock = s.clock ∧ (countGap p s).wake = s.wake ∧
      (countGap p s).timer = s.timer ∧ (countGap p s).lanes = s.lanes ∧ (countGap p s).berths = s.berths ∧
      (countGap p s).test = s.test ∧ (countGap p s).link = s.link ∧ (countGap p s).orderCount = s.orderCount ∧
      (countGap p s).pending = s.pending := by
  unfold countGap; dsimp only; split <;> simp

@[simp] theorem programmeFrameOf_keeps (p : ProgrammeNo) (s : State) :
      (programmeFrameOf p s).settings = s.settings ∧ (programmeFrameOf p s).routes = s.routes ∧ (programmeFrameOf p s).voice = s.voice ∧
      (programmeFrameOf p s).clips = s.clips ∧ (programmeFrameOf p s).mixer = s.mixer ∧ (programmeFrameOf p s).emergency = s.emergency ∧
      (programmeFrameOf p s).clock = s.clock ∧ (programmeFrameOf p s).wake = s.wake ∧ (programmeFrameOf p s).timer = s.timer ∧
      (programmeFrameOf p s).lanes = s.lanes ∧ (programmeFrameOf p s).berths = s.berths ∧ (programmeFrameOf p s).test = s.test ∧
      (programmeFrameOf p s).orderCount = s.orderCount ∧ (programmeFrameOf p s).pending = s.pending := by
  simp [programmeFrameOf]

@[simp] theorem programmeFrame_keeps (s : State) :
      (programmeFrame s).settings = s.settings ∧ (programmeFrame s).routes = s.routes ∧ (programmeFrame s).voice = s.voice ∧
      (programmeFrame s).clips = s.clips ∧ (programmeFrame s).mixer = s.mixer ∧ (programmeFrame s).emergency = s.emergency ∧
      (programmeFrame s).clock = s.clock ∧ (programmeFrame s).wake = s.wake ∧ (programmeFrame s).timer = s.timer ∧
      (programmeFrame s).lanes = s.lanes ∧ (programmeFrame s).berths = s.berths ∧ (programmeFrame s).test = s.test ∧
      (programmeFrame s).orderCount = s.orderCount ∧ (programmeFrame s).pending = s.pending := by
  unfold programmeFrame
  exact ⟨foldl_keeps State.settings (fun s x => by simp) (List.finRange 6) s,
    foldl_keeps State.routes (fun s x => by simp) (List.finRange 6) s,
    foldl_keeps State.voice (fun s x => by simp) (List.finRange 6) s,
    foldl_keeps State.clips (fun s x => by simp) (List.finRange 6) s,
    foldl_keeps State.mixer (fun s x => by simp) (List.finRange 6) s,
    foldl_keeps State.emergency (fun s x => by simp) (List.finRange 6) s,
    foldl_keeps State.clock (fun s x => by simp) (List.finRange 6) s,
    foldl_keeps State.wake (fun s x => by simp) (List.finRange 6) s,
    foldl_keeps State.timer (fun s x => by simp) (List.finRange 6) s,
    foldl_keeps State.lanes (fun s x => by simp) (List.finRange 6) s,
    foldl_keeps State.berths (fun s x => by simp) (List.finRange 6) s,
    foldl_keeps State.test (fun s x => by simp) (List.finRange 6) s,
    foldl_keeps State.orderCount (fun s x => by simp) (List.finRange 6) s,
    foldl_keeps State.pending (fun s x => by simp) (List.finRange 6) s⟩

/-! ## Emergency line, timer, counter bank -/

@[simp] theorem acceptLine_keeps (s : State) :
      (acceptLine s).settings = s.settings ∧ (acceptLine s).routes = s.routes ∧ (acceptLine s).programmes = s.programmes ∧
      (acceptLine s).voice = s.voice ∧ (acceptLine s).clips = s.clips ∧ (acceptLine s).mixer = s.mixer ∧
      (acceptLine s).clock = s.clock ∧ (acceptLine s).wake = s.wake ∧ (acceptLine s).timer = s.timer ∧
      (acceptLine s).lanes = s.lanes ∧ (acceptLine s).berths = s.berths ∧ (acceptLine s).test = s.test ∧
      (acceptLine s).counters = s.counters ∧ (acceptLine s).orderCount = s.orderCount ∧ (acceptLine s).pending = s.pending := by
  unfold acceptLine; dsimp only; split
  · simp
  · split <;> simp

@[simp] theorem carryOutClear_keeps (s : State) :
      (carryOutClear s).settings = s.settings ∧ (carryOutClear s).routes = s.routes ∧ (carryOutClear s).programmes = s.programmes ∧
      (carryOutClear s).voice = s.voice ∧ (carryOutClear s).clips = s.clips ∧ (carryOutClear s).mixer = s.mixer ∧
      (carryOutClear s).clock = s.clock ∧ (carryOutClear s).wake = s.wake ∧ (carryOutClear s).timer = s.timer ∧
      (carryOutClear s).lanes = s.lanes ∧ (carryOutClear s).berths = s.berths ∧ (carryOutClear s).test = s.test ∧
      (carryOutClear s).counters = s.counters ∧ (carryOutClear s).orderCount = s.orderCount ∧ (carryOutClear s).pending = s.pending := by
  unfold carryOutClear; split <;> simp

@[simp] theorem emergencyFrame_keeps (line : Line) (s : State) :
      (emergencyFrame line s).settings = s.settings ∧ (emergencyFrame line s).routes = s.routes ∧ (emergencyFrame line s).programmes = s.programmes ∧
      (emergencyFrame line s).voice = s.voice ∧ (emergencyFrame line s).clips = s.clips ∧ (emergencyFrame line s).mixer = s.mixer ∧
      (emergencyFrame line s).clock = s.clock ∧ (emergencyFrame line s).wake = s.wake ∧ (emergencyFrame line s).timer = s.timer ∧
      (emergencyFrame line s).lanes = s.lanes ∧ (emergencyFrame line s).berths = s.berths ∧ (emergencyFrame line s).test = s.test ∧
      (emergencyFrame line s).counters = s.counters ∧ (emergencyFrame line s).orderCount = s.orderCount ∧ (emergencyFrame line s).pending = s.pending := by
  unfold emergencyFrame; dsimp only; split <;> simp

@[simp] theorem timerFrame_keeps (st : Bool) (s : State) :
      (timerFrame st s).settings = s.settings ∧ (timerFrame st s).routes = s.routes ∧ (timerFrame st s).programmes = s.programmes ∧
      (timerFrame st s).voice = s.voice ∧ (timerFrame st s).clips = s.clips ∧ (timerFrame st s).mixer = s.mixer ∧
      (timerFrame st s).emergency = s.emergency ∧ (timerFrame st s).clock = s.clock ∧ (timerFrame st s).wake = s.wake ∧
      (timerFrame st s).lanes = s.lanes ∧ (timerFrame st s).berths = s.berths ∧ (timerFrame st s).test = s.test ∧
      (timerFrame st s).counters = s.counters ∧ (timerFrame st s).orderCount = s.orderCount ∧ (timerFrame st s).pending = s.pending := by
  unfold timerFrame; dsimp only; split <;> simp

@[simp] theorem snapshotAt_keeps (due : Bool) (k : Nat) (s : State) :
      (snapshotAt due k s).settings = s.settings ∧ (snapshotAt due k s).routes = s.routes ∧ (snapshotAt due k s).programmes = s.programmes ∧
      (snapshotAt due k s).voice = s.voice ∧ (snapshotAt due k s).clips = s.clips ∧ (snapshotAt due k s).mixer = s.mixer ∧
      (snapshotAt due k s).emergency = s.emergency ∧ (snapshotAt due k s).clock = s.clock ∧ (snapshotAt due k s).wake = s.wake ∧
      (snapshotAt due k s).timer = s.timer ∧ (snapshotAt due k s).lanes = s.lanes ∧ (snapshotAt due k s).berths = s.berths ∧
      (snapshotAt due k s).test = s.test ∧ (snapshotAt due k s).link = s.link ∧ (snapshotAt due k s).orderCount = s.orderCount ∧
      (snapshotAt due k s).pending = s.pending := by
  simp [snapshotAt]

@[simp] theorem closeBank_keeps (due : Bool) (s : State) :
      (closeBank due s).settings = s.settings ∧ (closeBank due s).routes = s.routes ∧ (closeBank due s).programmes = s.programmes ∧
      (closeBank due s).voice = s.voice ∧ (closeBank due s).clips = s.clips ∧ (closeBank due s).mixer = s.mixer ∧
      (closeBank due s).emergency = s.emergency ∧ (closeBank due s).clock = s.clock ∧ (closeBank due s).wake = s.wake ∧
      (closeBank due s).timer = s.timer ∧ (closeBank due s).lanes = s.lanes ∧ (closeBank due s).berths = s.berths ∧
      (closeBank due s).test = s.test ∧ (closeBank due s).link = s.link ∧ (closeBank due s).pending = s.pending := by
  unfold closeBank autoPeriod; split <;> simp

/-! ## Lanes and berths -/

@[simp] theorem reportChange_keeps (b : Berth) (s : State) :
      (reportChange b s).settings = s.settings ∧ (reportChange b s).routes = s.routes ∧ (reportChange b s).programmes = s.programmes ∧
      (reportChange b s).voice = s.voice ∧ (reportChange b s).clips = s.clips ∧ (reportChange b s).mixer = s.mixer ∧
      (reportChange b s).emergency = s.emergency ∧ (reportChange b s).clock = s.clock ∧ (reportChange b s).wake = s.wake ∧
      (reportChange b s).timer = s.timer ∧ (reportChange b s).lanes = s.lanes ∧ (reportChange b s).test = s.test ∧
      (reportChange b s).counters = s.counters ∧ (reportChange b s).orderCount = s.orderCount ∧ (reportChange b s).pending = s.pending := by
  unfold reportChange; dsimp only; split <;> simp

@[simp] theorem makeAbsent_keeps (b : Berth) (s : State) :
      (makeAbsent b s).settings = s.settings ∧ (makeAbsent b s).routes = s.routes ∧ (makeAbsent b s).programmes = s.programmes ∧
      (makeAbsent b s).voice = s.voice ∧ (makeAbsent b s).clips = s.clips ∧ (makeAbsent b s).mixer = s.mixer ∧
      (makeAbsent b s).emergency = s.emergency ∧ (makeAbsent b s).clock = s.clock ∧ (makeAbsent b s).wake = s.wake ∧
      (makeAbsent b s).timer = s.timer ∧ (makeAbsent b s).lanes = s.lanes ∧ (makeAbsent b s).test = s.test ∧
      (makeAbsent b s).counters = s.counters ∧ (makeAbsent b s).orderCount = s.orderCount ∧ (makeAbsent b s).pending = s.pending := by
  unfold makeAbsent; dsimp only; split <;> simp

@[simp] theorem invalidSlot_keeps (b : Berth) (s : State) :
      (invalidSlot b s).settings = s.settings ∧ (invalidSlot b s).routes = s.routes ∧ (invalidSlot b s).programmes = s.programmes ∧
      (invalidSlot b s).voice = s.voice ∧ (invalidSlot b s).clips = s.clips ∧ (invalidSlot b s).mixer = s.mixer ∧
      (invalidSlot b s).emergency = s.emergency ∧ (invalidSlot b s).clock = s.clock ∧ (invalidSlot b s).wake = s.wake ∧
      (invalidSlot b s).timer = s.timer ∧ (invalidSlot b s).lanes = s.lanes ∧ (invalidSlot b s).test = s.test ∧
      (invalidSlot b s).counters = s.counters ∧ (invalidSlot b s).orderCount = s.orderCount ∧ (invalidSlot b s).pending = s.pending := by
  unfold invalidSlot; dsimp only; split <;> simp

@[simp] theorem laneAbsent_keeps (l : LaneNo) (s : State) :
      (laneAbsent l s).settings = s.settings ∧ (laneAbsent l s).routes = s.routes ∧ (laneAbsent l s).programmes = s.programmes ∧
      (laneAbsent l s).voice = s.voice ∧ (laneAbsent l s).clips = s.clips ∧ (laneAbsent l s).mixer = s.mixer ∧
      (laneAbsent l s).emergency = s.emergency ∧ (laneAbsent l s).clock = s.clock ∧ (laneAbsent l s).wake = s.wake ∧
      (laneAbsent l s).timer = s.timer ∧ (laneAbsent l s).lanes = s.lanes ∧ (laneAbsent l s).test = s.test ∧
      (laneAbsent l s).counters = s.counters ∧ (laneAbsent l s).orderCount = s.orderCount ∧ (laneAbsent l s).pending = s.pending := by
  unfold laneAbsent
  exact ⟨foldl_keeps State.settings (fun s x => by simp) (berthsOf l) s,
    foldl_keeps State.routes (fun s x => by simp) (berthsOf l) s,
    foldl_keeps State.programmes (fun s x => by simp) (berthsOf l) s,
    foldl_keeps State.voice (fun s x => by simp) (berthsOf l) s,
    foldl_keeps State.clips (fun s x => by simp) (berthsOf l) s,
    foldl_keeps State.mixer (fun s x => by simp) (berthsOf l) s,
    foldl_keeps State.emergency (fun s x => by simp) (berthsOf l) s,
    foldl_keeps State.clock (fun s x => by simp) (berthsOf l) s,
    foldl_keeps State.wake (fun s x => by simp) (berthsOf l) s,
    foldl_keeps State.timer (fun s x => by simp) (berthsOf l) s,
    foldl_keeps State.lanes (fun s x => by simp) (berthsOf l) s,
    foldl_keeps State.test (fun s x => by simp) (berthsOf l) s,
    foldl_keeps State.counters (fun s x => by simp) (berthsOf l) s,
    foldl_keeps State.orderCount (fun s x => by simp) (berthsOf l) s,
    foldl_keeps State.pending (fun s x => by simp) (berthsOf l) s⟩

@[simp] theorem laneTrains_keeps (l : LaneNo) (s : State) :
      (laneTrains l s).settings = s.settings ∧ (laneTrains l s).routes = s.routes ∧ (laneTrains l s).programmes = s.programmes ∧
      (laneTrains l s).voice = s.voice ∧ (laneTrains l s).clips = s.clips ∧ (laneTrains l s).mixer = s.mixer ∧
      (laneTrains l s).emergency = s.emergency ∧ (laneTrains l s).clock = s.clock ∧ (laneTrains l s).wake = s.wake ∧
      (laneTrains l s).timer = s.timer ∧ (laneTrains l s).berths = s.berths ∧ (laneTrains l s).test = s.test ∧
      (laneTrains l s).counters = s.counters ∧ (laneTrains l s).orderCount = s.orderCount ∧ (laneTrains l s).pending = s.pending := by
  simp [laneTrains, laneNotice]

@[simp] theorem laneLoses_keeps (l : LaneNo) (s : State) :
      (laneLoses l s).settings = s.settings ∧ (laneLoses l s).routes = s.routes ∧ (laneLoses l s).programmes = s.programmes ∧
      (laneLoses l s).voice = s.voice ∧ (laneLoses l s).clips = s.clips ∧ (laneLoses l s).mixer = s.mixer ∧
      (laneLoses l s).emergency = s.emergency ∧ (laneLoses l s).clock = s.clock ∧ (laneLoses l s).wake = s.wake ∧
      (laneLoses l s).timer = s.timer ∧ (laneLoses l s).test = s.test ∧ (laneLoses l s).orderCount = s.orderCount ∧
      (laneLoses l s).pending = s.pending := by
  simp [laneLoses, laneNotice]

@[simp] theorem judgeLane_keeps (l : LaneNo) (s : State) :
      (judgeLane l s).settings = s.settings ∧ (judgeLane l s).routes = s.routes ∧ (judgeLane l s).programmes = s.programmes ∧
      (judgeLane l s).voice = s.voice ∧ (judgeLane l s).clips = s.clips ∧ (judgeLane l s).mixer = s.mixer ∧
      (judgeLane l s).emergency = s.emergency ∧ (judgeLane l s).clock = s.clock ∧ (judgeLane l s).wake = s.wake ∧
      (judgeLane l s).timer = s.timer ∧ (judgeLane l s).test = s.test ∧ (judgeLane l s).orderCount = s.orderCount ∧
      (judgeLane l s).pending = s.pending := by
  unfold judgeLane; dsimp only; split
  · simp
  · split
    · split <;> simp
    · simp
  · split
    · simp
    · split <;> simp

@[simp] theorem testErrors_keeps (b : Berth) (n : Nat) (s : State) :
      (testErrors b n s).settings = s.settings ∧ (testErrors b n s).routes = s.routes ∧ (testErrors b n s).programmes = s.programmes ∧
      (testErrors b n s).voice = s.voice ∧ (testErrors b n s).clips = s.clips ∧ (testErrors b n s).mixer = s.mixer ∧
      (testErrors b n s).emergency = s.emergency ∧ (testErrors b n s).clock = s.clock ∧ (testErrors b n s).wake = s.wake ∧
      (testErrors b n s).timer = s.timer ∧ (testErrors b n s).lanes = s.lanes ∧ (testErrors b n s).berths = s.berths ∧
      (testErrors b n s).test = s.test ∧ (testErrors b n s).link = s.link ∧ (testErrors b n s).orderCount = s.orderCount ∧
      (testErrors b n s).pending = s.pending := by
  unfold testErrors; split <;> simp

@[simp] theorem closeSlots_keeps (s : State) :
      (closeSlots s).settings = s.settings ∧ (closeSlots s).routes = s.routes ∧ (closeSlots s).programmes = s.programmes ∧
      (closeSlots s).voice = s.voice ∧ (closeSlots s).clips = s.clips ∧ (closeSlots s).mixer = s.mixer ∧
      (closeSlots s).emergency = s.emergency ∧ (closeSlots s).clock = s.clock ∧ (closeSlots s).wake = s.wake ∧
      (closeSlots s).timer = s.timer ∧ (closeSlots s).lanes = s.lanes ∧ (closeSlots s).test = s.test ∧
      (closeSlots s).counters = s.counters ∧ (closeSlots s).orderCount = s.orderCount ∧ (closeSlots s).pending = s.pending := by
  unfold closeSlots
  exact ⟨foldl_keeps State.settings (fun s x => by split <;> simp) (List.finRange 40) s,
    foldl_keeps State.routes (fun s x => by split <;> simp) (List.finRange 40) s,
    foldl_keeps State.programmes (fun s x => by split <;> simp) (List.finRange 40) s,
    foldl_keeps State.voice (fun s x => by split <;> simp) (List.finRange 40) s,
    foldl_keeps State.clips (fun s x => by split <;> simp) (List.finRange 40) s,
    foldl_keeps State.mixer (fun s x => by split <;> simp) (List.finRange 40) s,
    foldl_keeps State.emergency (fun s x => by split <;> simp) (List.finRange 40) s,
    foldl_keeps State.clock (fun s x => by split <;> simp) (List.finRange 40) s,
    foldl_keeps State.wake (fun s x => by split <;> simp) (List.finRange 40) s,
    foldl_keeps State.timer (fun s x => by split <;> simp) (List.finRange 40) s,
    foldl_keeps State.lanes (fun s x => by split <;> simp) (List.finRange 40) s,
    foldl_keeps State.test (fun s x => by split <;> simp) (List.finRange 40) s,
    foldl_keeps State.counters (fun s x => by split <;> simp) (List.finRange 40) s,
    foldl_keeps State.orderCount (fun s x => by split <;> simp) (List.finRange 40) s,
    foldl_keeps State.pending (fun s x => by split <;> simp) (List.finRange 40) s⟩

@[simp] theorem closeChecker_keeps (s : State) :
      (closeChecker s).settings = s.settings ∧ (closeChecker s).routes = s.routes ∧ (closeChecker s).programmes = s.programmes ∧
      (closeChecker s).voice = s.voice ∧ (closeChecker s).clips = s.clips ∧ (closeChecker s).mixer = s.mixer ∧
      (closeChecker s).emergency = s.emergency ∧ (closeChecker s).clock = s.clock ∧ (closeChecker s).wake = s.wake ∧
      (closeChecker s).timer = s.timer ∧ (closeChecker s).lanes = s.lanes ∧ (closeChecker s).berths = s.berths ∧
      (closeChecker s).test = s.test ∧ (closeChecker s).link = s.link ∧ (closeChecker s).orderCount = s.orderCount ∧
      (closeChecker s).pending = s.pending := by
  unfold closeChecker
  exact ⟨foldl_keeps State.settings (fun s x => by split <;> simp) (List.finRange 40) s,
    foldl_keeps State.routes (fun s x => by split <;> simp) (List.finRange 40) s,
    foldl_keeps State.programmes (fun s x => by split <;> simp) (List.finRange 40) s,
    foldl_keeps State.voice (fun s x => by split <;> simp) (List.finRange 40) s,
    foldl_keeps State.clips (fun s x => by split <;> simp) (List.finRange 40) s,
    foldl_keeps State.mixer (fun s x => by split <;> simp) (List.finRange 40) s,
    foldl_keeps State.emergency (fun s x => by split <;> simp) (List.finRange 40) s,
    foldl_keeps State.clock (fun s x => by split <;> simp) (List.finRange 40) s,
    foldl_keeps State.wake (fun s x => by split <;> simp) (List.finRange 40) s,
    foldl_keeps State.timer (fun s x => by split <;> simp) (List.finRange 40) s,
    foldl_keeps State.lanes (fun s x => by split <;> simp) (List.finRange 40) s,
    foldl_keeps State.berths (fun s x => by split <;> simp) (List.finRange 40) s,
    foldl_keeps State.test (fun s x => by split <;> simp) (List.finRange 40) s,
    foldl_keeps State.link (fun s x => by split <;> simp) (List.finRange 40) s,
    foldl_keeps State.orderCount (fun s x => by split <;> simp) (List.finRange 40) s,
    foldl_keeps State.pending (fun s x => by split <;> simp) (List.finRange 40) s⟩

@[simp] theorem closeLanes_keeps (s : State) :
      (closeLanes s).settings = s.settings ∧ (closeLanes s).routes = s.routes ∧ (closeLanes s).programmes = s.programmes ∧
      (closeLanes s).voice = s.voice ∧ (closeLanes s).clips = s.clips ∧ (closeLanes s).mixer = s.mixer ∧
      (closeLanes s).emergency = s.emergency ∧ (closeLanes s).clock = s.clock ∧ (closeLanes s).wake = s.wake ∧
      (closeLanes s).timer = s.timer ∧ (closeLanes s).test = s.test ∧ (closeLanes s).orderCount = s.orderCount ∧
      (closeLanes s).pending = s.pending := by
  unfold closeLanes
  exact ⟨foldl_keeps State.settings (fun s x => by simp) (List.finRange 4) s,
    foldl_keeps State.routes (fun s x => by simp) (List.finRange 4) s,
    foldl_keeps State.programmes (fun s x => by simp) (List.finRange 4) s,
    foldl_keeps State.voice (fun s x => by simp) (List.finRange 4) s,
    foldl_keeps State.clips (fun s x => by simp) (List.finRange 4) s,
    foldl_keeps State.mixer (fun s x => by simp) (List.finRange 4) s,
    foldl_keeps State.emergency (fun s x => by simp) (List.finRange 4) s,
    foldl_keeps State.clock (fun s x => by simp) (List.finRange 4) s,
    foldl_keeps State.wake (fun s x => by simp) (List.finRange 4) s,
    foldl_keeps State.timer (fun s x => by simp) (List.finRange 4) s,
    foldl_keeps State.test (fun s x => by simp) (List.finRange 4) s,
    foldl_keeps State.orderCount (fun s x => by simp) (List.finRange 4) s,
    foldl_keeps State.pending (fun s x => by simp) (List.finRange 4) s⟩

@[simp] theorem openSlots_keeps (s : State) :
      (openSlots s).settings = s.settings ∧ (openSlots s).routes = s.routes ∧ (openSlots s).programmes = s.programmes ∧
      (openSlots s).voice = s.voice ∧ (openSlots s).clips = s.clips ∧ (openSlots s).mixer = s.mixer ∧
      (openSlots s).emergency = s.emergency ∧ (openSlots s).clock = s.clock ∧ (openSlots s).wake = s.wake ∧
      (openSlots s).timer = s.timer ∧ (openSlots s).lanes = s.lanes ∧ (openSlots s).test = s.test ∧
      (openSlots s).counters = s.counters ∧ (openSlots s).link = s.link ∧ (openSlots s).orderCount = s.orderCount ∧
      (openSlots s).pending = s.pending := by
  simp [openSlots]

@[simp] theorem closeFrame_keeps (s : State) :
      (closeFrame s).settings = s.settings ∧ (closeFrame s).routes = s.routes ∧ (closeFrame s).programmes = s.programmes ∧
      (closeFrame s).voice = s.voice ∧ (closeFrame s).clips = s.clips ∧ (closeFrame s).mixer = s.mixer ∧
      (closeFrame s).emergency = s.emergency ∧ (closeFrame s).clock = s.clock ∧ (closeFrame s).wake = s.wake ∧
      (closeFrame s).timer = s.timer ∧ (closeFrame s).test = s.test ∧ (closeFrame s).orderCount = s.orderCount ∧
      (closeFrame s).pending = s.pending := by
  simp [closeFrame]

@[simp] theorem testFrame_keeps (latch : Bool) (s : State) :
      (testFrame latch s).settings = s.settings ∧ (testFrame latch s).routes = s.routes ∧ (testFrame latch s).programmes = s.programmes ∧
      (testFrame latch s).voice = s.voice ∧ (testFrame latch s).clips = s.clips ∧ (testFrame latch s).mixer = s.mixer ∧
      (testFrame latch s).emergency = s.emergency ∧ (testFrame latch s).clock = s.clock ∧ (testFrame latch s).wake = s.wake ∧
      (testFrame latch s).timer = s.timer ∧ (testFrame latch s).lanes = s.lanes ∧ (testFrame latch s).berths = s.berths ∧
      (testFrame latch s).counters = s.counters ∧ (testFrame latch s).link = s.link ∧ (testFrame latch s).orderCount = s.orderCount ∧
      (testFrame latch s).pending = s.pending := by
  simp [testFrame]

@[simp] theorem handOutWords_keeps (s : State) :
      (handOutWords s).settings = s.settings ∧ (handOutWords s).routes = s.routes ∧ (handOutWords s).programmes = s.programmes ∧
      (handOutWords s).voice = s.voice ∧ (handOutWords s).clips = s.clips ∧ (handOutWords s).mixer = s.mixer ∧
      (handOutWords s).emergency = s.emergency ∧ (handOutWords s).clock = s.clock ∧ (handOutWords s).wake = s.wake ∧
      (handOutWords s).timer = s.timer ∧ (handOutWords s).lanes = s.lanes ∧ (handOutWords s).berths = s.berths ∧
      (handOutWords s).counters = s.counters ∧ (handOutWords s).link = s.link ∧ (handOutWords s).orderCount = s.orderCount ∧
      (handOutWords s).pending = s.pending := by
  unfold handOutWords; split <;> simp

@[simp] theorem sendFrames_keeps (s : State) :
      (sendFrames s).settings = s.settings ∧ (sendFrames s).routes = s.routes ∧ (sendFrames s).programmes = s.programmes ∧
      (sendFrames s).voice = s.voice ∧ (sendFrames s).clips = s.clips ∧ (sendFrames s).mixer = s.mixer ∧
      (sendFrames s).emergency = s.emergency ∧ (sendFrames s).clock = s.clock ∧ (sendFrames s).wake = s.wake ∧
      (sendFrames s).timer = s.timer ∧ (sendFrames s).berths = s.berths ∧ (sendFrames s).test = s.test ∧
      (sendFrames s).counters = s.counters ∧ (sendFrames s).link = s.link ∧ (sendFrames s).orderCount = s.orderCount ∧
      (sendFrames s).pending = s.pending := by
  simp [sendFrames]

/-! ## Clock and wake scheduler -/

@[simp] theorem evaluateNight_keeps (s : State) :
      (evaluateNight s).settings = s.settings ∧ (evaluateNight s).routes = s.routes ∧ (evaluateNight s).programmes = s.programmes ∧
      (evaluateNight s).voice = s.voice ∧ (evaluateNight s).clips = s.clips ∧ (evaluateNight s).mixer = s.mixer ∧
      (evaluateNight s).emergency = s.emergency ∧ (evaluateNight s).wake = s.wake ∧ (evaluateNight s).timer = s.timer ∧
      (evaluateNight s).lanes = s.lanes ∧ (evaluateNight s).berths = s.berths ∧ (evaluateNight s).test = s.test ∧
      (evaluateNight s).counters = s.counters ∧ (evaluateNight s).link = s.link ∧ (evaluateNight s).orderCount = s.orderCount ∧
      (evaluateNight s).pending = s.pending := by
  simp [evaluateNight]

@[simp] theorem evaluateWake_keeps (s : State) :
      (evaluateWake s).settings = s.settings ∧ (evaluateWake s).routes = s.routes ∧ (evaluateWake s).programmes = s.programmes ∧
      (evaluateWake s).voice = s.voice ∧ (evaluateWake s).clips = s.clips ∧ (evaluateWake s).mixer = s.mixer ∧
      (evaluateWake s).emergency = s.emergency ∧ (evaluateWake s).clock = s.clock ∧ (evaluateWake s).timer = s.timer ∧
      (evaluateWake s).lanes = s.lanes ∧ (evaluateWake s).berths = s.berths ∧ (evaluateWake s).test = s.test ∧
      (evaluateWake s).counters = s.counters ∧ (evaluateWake s).orderCount = s.orderCount ∧ (evaluateWake s).pending = s.pending := by
  unfold evaluateWake; split <;> simp

@[simp] theorem wakeSecond_keeps (s : State) :
      (wakeSecond s).settings = s.settings ∧ (wakeSecond s).routes = s.routes ∧ (wakeSecond s).programmes = s.programmes ∧
      (wakeSecond s).voice = s.voice ∧ (wakeSecond s).clips = s.clips ∧ (wakeSecond s).mixer = s.mixer ∧
      (wakeSecond s).emergency = s.emergency ∧ (wakeSecond s).clock = s.clock ∧ (wakeSecond s).timer = s.timer ∧
      (wakeSecond s).lanes = s.lanes ∧ (wakeSecond s).berths = s.berths ∧ (wakeSecond s).test = s.test ∧
      (wakeSecond s).counters = s.counters ∧ (wakeSecond s).orderCount = s.orderCount ∧ (wakeSecond s).pending = s.pending := by
  simp [wakeSecond]

@[simp] theorem clockSecond_keeps (s : State) :
      (clockSecond s).settings = s.settings ∧ (clockSecond s).routes = s.routes ∧ (clockSecond s).programmes = s.programmes ∧
      (clockSecond s).voice = s.voice ∧ (clockSecond s).clips = s.clips ∧ (clockSecond s).mixer = s.mixer ∧
      (clockSecond s).emergency = s.emergency ∧ (clockSecond s).wake = s.wake ∧ (clockSecond s).timer = s.timer ∧
      (clockSecond s).lanes = s.lanes ∧ (clockSecond s).berths = s.berths ∧ (clockSecond s).test = s.test ∧
      (clockSecond s).counters = s.counters ∧ (clockSecond s).orderCount = s.orderCount ∧ (clockSecond s).pending = s.pending := by
  unfold clockSecond; split
  · simp
  · split <;> simp

@[simp] theorem minuteTick_keeps (s : State) :
      (minuteTick s).settings = s.settings ∧ (minuteTick s).routes = s.routes ∧ (minuteTick s).programmes = s.programmes ∧
      (minuteTick s).voice = s.voice ∧ (minuteTick s).clips = s.clips ∧ (minuteTick s).mixer = s.mixer ∧
      (minuteTick s).emergency = s.emergency ∧ (minuteTick s).timer = s.timer ∧ (minuteTick s).lanes = s.lanes ∧
      (minuteTick s).berths = s.berths ∧ (minuteTick s).test = s.test ∧ (minuteTick s).counters = s.counters ∧
      (minuteTick s).orderCount = s.orderCount ∧ (minuteTick s).pending = s.pending := by
  simp [minuteTick]

@[simp] theorem secondTick_keeps (s : State) :
      (secondTick s).settings = s.settings ∧ (secondTick s).routes = s.routes ∧ (secondTick s).programmes = s.programmes ∧
      (secondTick s).voice = s.voice ∧ (secondTick s).clips = s.clips ∧ (secondTick s).mixer = s.mixer ∧
      (secondTick s).emergency = s.emergency ∧ (secondTick s).timer = s.timer ∧ (secondTick s).lanes = s.lanes ∧
      (secondTick s).berths = s.berths ∧ (secondTick s).test = s.test ∧ (secondTick s).counters = s.counters ∧
      (secondTick s).orderCount = s.orderCount ∧ (secondTick s).pending = s.pending := by
  unfold secondTick; dsimp only; split <;> simp

@[simp] theorem clockFrame_keeps (s : State) :
      (clockFrame s).settings = s.settings ∧ (clockFrame s).routes = s.routes ∧ (clockFrame s).programmes = s.programmes ∧
      (clockFrame s).voice = s.voice ∧ (clockFrame s).clips = s.clips ∧ (clockFrame s).mixer = s.mixer ∧
      (clockFrame s).emergency = s.emergency ∧ (clockFrame s).timer = s.timer ∧ (clockFrame s).lanes = s.lanes ∧
      (clockFrame s).berths = s.berths ∧ (clockFrame s).test = s.test ∧ (clockFrame s).counters = s.counters ∧
      (clockFrame s).orderCount = s.orderCount ∧ (clockFrame s).pending = s.pending := by
  unfold clockFrame; split
  · split <;> simp
  · simp

@[simp] theorem chimeFrame_keeps (s : State) :
      (chimeFrame s).settings = s.settings ∧ (chimeFrame s).routes = s.routes ∧ (chimeFrame s).programmes = s.programmes ∧
      (chimeFrame s).voice = s.voice ∧ (chimeFrame s).clips = s.clips ∧ (chimeFrame s).mixer = s.mixer ∧
      (chimeFrame s).emergency = s.emergency ∧ (chimeFrame s).clock = s.clock ∧ (chimeFrame s).timer = s.timer ∧
      (chimeFrame s).lanes = s.lanes ∧ (chimeFrame s).berths = s.berths ∧ (chimeFrame s).test = s.test ∧
      (chimeFrame s).counters = s.counters ∧ (chimeFrame s).link = s.link ∧ (chimeFrame s).orderCount = s.orderCount ∧
      (chimeFrame s).pending = s.pending := by
  simp [chimeFrame]

/-! ## Voice channel -/

@[simp] theorem startRepeat_keeps (r : Announcement) (s : State) :
      (startRepeat r s).settings = s.settings ∧ (startRepeat r s).routes = s.routes ∧ (startRepeat r s).programmes = s.programmes ∧
      (startRepeat r s).clips = s.clips ∧ (startRepeat r s).mixer = s.mixer ∧ (startRepeat r s).emergency = s.emergency ∧
      (startRepeat r s).clock = s.clock ∧ (startRepeat r s).wake = s.wake ∧ (startRepeat r s).timer = s.timer ∧
      (startRepeat r s).lanes = s.lanes ∧ (startRepeat r s).berths = s.berths ∧ (startRepeat r s).test = s.test ∧
      (startRepeat r s).counters = s.counters ∧ (startRepeat r s).link = s.link ∧ (startRepeat r s).orderCount = s.orderCount ∧
      (startRepeat r s).pending = s.pending := by
  unfold startRepeat; split <;> simp

@[simp] theorem takeChannel_keeps (r : Announcement) (s : State) :
      (takeChannel r s).settings = s.settings ∧ (takeChannel r s).routes = s.routes ∧ (takeChannel r s).programmes = s.programmes ∧
      (takeChannel r s).clips = s.clips ∧ (takeChannel r s).mixer = s.mixer ∧ (takeChannel r s).emergency = s.emergency ∧
      (takeChannel r s).clock = s.clock ∧ (takeChannel r s).wake = s.wake ∧ (takeChannel r s).timer = s.timer ∧
      (takeChannel r s).lanes = s.lanes ∧ (takeChannel r s).berths = s.berths ∧ (takeChannel r s).test = s.test ∧
      (takeChannel r s).counters = s.counters ∧ (takeChannel r s).link = s.link ∧ (takeChannel r s).orderCount = s.orderCount ∧
      (takeChannel r s).pending = s.pending := by
  simp [takeChannel]

@[simp] theorem pushAndTake_keeps (a r : Announcement) (s : State) :
      (pushAndTake a r s).settings = s.settings ∧ (pushAndTake a r s).routes = s.routes ∧ (pushAndTake a r s).programmes = s.programmes ∧
      (pushAndTake a r s).clips = s.clips ∧ (pushAndTake a r s).mixer = s.mixer ∧ (pushAndTake a r s).emergency = s.emergency ∧
      (pushAndTake a r s).clock = s.clock ∧ (pushAndTake a r s).wake = s.wake ∧ (pushAndTake a r s).timer = s.timer ∧
      (pushAndTake a r s).lanes = s.lanes ∧ (pushAndTake a r s).berths = s.berths ∧ (pushAndTake a r s).test = s.test ∧
      (pushAndTake a r s).counters = s.counters ∧ (pushAndTake a r s).link = s.link ∧ (pushAndTake a r s).orderCount = s.orderCount ∧
      (pushAndTake a r s).pending = s.pending := by
  simp [pushAndTake]

@[simp] theorem joinWaiting_keeps (r : Announcement) (s : State) :
      (joinWaiting r s).settings = s.settings ∧ (joinWaiting r s).routes = s.routes ∧ (joinWaiting r s).programmes = s.programmes ∧
      (joinWaiting r s).clips = s.clips ∧ (joinWaiting r s).mixer = s.mixer ∧ (joinWaiting r s).emergency = s.emergency ∧
      (joinWaiting r s).clock = s.clock ∧ (joinWaiting r s).wake = s.wake ∧ (joinWaiting r s).timer = s.timer ∧
      (joinWaiting r s).lanes = s.lanes ∧ (joinWaiting r s).berths = s.berths ∧ (joinWaiting r s).test = s.test ∧
      (joinWaiting r s).counters = s.counters ∧ (joinWaiting r s).link = s.link ∧ (joinWaiting r s).orderCount = s.orderCount ∧
      (joinWaiting r s).pending = s.pending := by
  simp [joinWaiting]

@[simp] theorem endNotice_keeps (i : Byte) (e : EndReason) (s : State) :
      (endNotice i e s).settings = s.settings ∧ (endNotice i e s).routes = s.routes ∧ (endNotice i e s).programmes = s.programmes ∧
      (endNotice i e s).voice = s.voice ∧ (endNotice i e s).clips = s.clips ∧ (endNotice i e s).mixer = s.mixer ∧
      (endNotice i e s).emergency = s.emergency ∧ (endNotice i e s).clock = s.clock ∧ (endNotice i e s).wake = s.wake ∧
      (endNotice i e s).timer = s.timer ∧ (endNotice i e s).lanes = s.lanes ∧ (endNotice i e s).berths = s.berths ∧
      (endNotice i e s).test = s.test ∧ (endNotice i e s).counters = s.counters ∧ (endNotice i e s).orderCount = s.orderCount ∧
      (endNotice i e s).pending = s.pending := by
  simp [endNotice]

@[simp] theorem endActive_keeps (e : EndReason) (r : Announcement) (s : State) :
      (endActive e r s).settings = s.settings ∧ (endActive e r s).routes = s.routes ∧ (endActive e r s).programmes = s.programmes ∧
      (endActive e r s).clips = s.clips ∧ (endActive e r s).mixer = s.mixer ∧ (endActive e r s).emergency = s.emergency ∧
      (endActive e r s).clock = s.clock ∧ (endActive e r s).wake = s.wake ∧ (endActive e r s).timer = s.timer ∧
      (endActive e r s).lanes = s.lanes ∧ (endActive e r s).berths = s.berths ∧ (endActive e r s).test = s.test ∧
      (endActive e r s).counters = s.counters ∧ (endActive e r s).orderCount = s.orderCount ∧ (endActive e r s).pending = s.pending := by
  simp [endActive]

@[simp] theorem rearm_keeps (s : State) :
      (rearm s).settings = s.settings ∧ (rearm s).routes = s.routes ∧ (rearm s).programmes = s.programmes ∧
      (rearm s).clips = s.clips ∧ (rearm s).mixer = s.mixer ∧ (rearm s).emergency = s.emergency ∧
      (rearm s).clock = s.clock ∧ (rearm s).wake = s.wake ∧ (rearm s).timer = s.timer ∧
      (rearm s).lanes = s.lanes ∧ (rearm s).berths = s.berths ∧ (rearm s).test = s.test ∧
      (rearm s).counters = s.counters ∧ (rearm s).link = s.link ∧ (rearm s).orderCount = s.orderCount ∧
      (rearm s).pending = s.pending := by
  unfold rearm; split <;> simp

@[simp] theorem popped_keeps (rest : List Announcement) (s : State) :
      (popped rest s).settings = s.settings ∧ (popped rest s).routes = s.routes ∧ (popped rest s).programmes = s.programmes ∧
      (popped rest s).clips = s.clips ∧ (popped rest s).mixer = s.mixer ∧ (popped rest s).emergency = s.emergency ∧
      (popped rest s).clock = s.clock ∧ (popped rest s).wake = s.wake ∧ (popped rest s).timer = s.timer ∧
      (popped rest s).lanes = s.lanes ∧ (popped rest s).berths = s.berths ∧ (popped rest s).test = s.test ∧
      (popped rest s).counters = s.counters ∧ (popped rest s).link = s.link ∧ (popped rest s).orderCount = s.orderCount ∧
      (popped rest s).pending = s.pending := by
  simp [popped]

@[simp] theorem takeHead_keeps (h : Announcement) (rest : List Announcement) (s : State) :
      (takeHead h rest s).settings = s.settings ∧ (takeHead h rest s).routes = s.routes ∧ (takeHead h rest s).programmes = s.programmes ∧
      (takeHead h rest s).clips = s.clips ∧ (takeHead h rest s).mixer = s.mixer ∧ (takeHead h rest s).emergency = s.emergency ∧
      (takeHead h rest s).clock = s.clock ∧ (takeHead h rest s).wake = s.wake ∧ (takeHead h rest s).timer = s.timer ∧
      (takeHead h rest s).lanes = s.lanes ∧ (takeHead h rest s).berths = s.berths ∧ (takeHead h rest s).test = s.test ∧
      (takeHead h rest s).counters = s.counters ∧ (takeHead h rest s).link = s.link ∧ (takeHead h rest s).orderCount = s.orderCount ∧
      (takeHead h rest s).pending = s.pending := by
  simp [takeHead]

@[simp] theorem preemptionCheck_keeps (s : State) :
      (preemptionCheck s).settings = s.settings ∧ (preemptionCheck s).routes = s.routes ∧ (preemptionCheck s).programmes = s.programmes ∧
      (preemptionCheck s).clips = s.clips ∧ (preemptionCheck s).mixer = s.mixer ∧ (preemptionCheck s).emergency = s.emergency ∧
      (preemptionCheck s).clock = s.clock ∧ (preemptionCheck s).wake = s.wake ∧ (preemptionCheck s).timer = s.timer ∧
      (preemptionCheck s).lanes = s.lanes ∧ (preemptionCheck s).berths = s.berths ∧ (preemptionCheck s).test = s.test ∧
      (preemptionCheck s).counters = s.counters ∧ (preemptionCheck s).link = s.link ∧ (preemptionCheck s).orderCount = s.orderCount ∧
      (preemptionCheck s).pending = s.pending := by
  unfold preemptionCheck; split
  · simp
  · dsimp only; split
    · simp
    · split <;> simp

@[simp] theorem reselectFor_keeps (n : Nat) (s : State) :
      (reselectFor n s).settings = s.settings ∧ (reselectFor n s).routes = s.routes ∧ (reselectFor n s).programmes = s.programmes ∧
      (reselectFor n s).clips = s.clips ∧ (reselectFor n s).mixer = s.mixer ∧ (reselectFor n s).emergency = s.emergency ∧
      (reselectFor n s).clock = s.clock ∧ (reselectFor n s).wake = s.wake ∧ (reselectFor n s).timer = s.timer ∧
      (reselectFor n s).lanes = s.lanes ∧ (reselectFor n s).berths = s.berths ∧ (reselectFor n s).test = s.test ∧
      (reselectFor n s).counters = s.counters ∧ (reselectFor n s).orderCount = s.orderCount ∧ (reselectFor n s).pending = s.pending := by
  induction n generalizing s with
  | zero => simp [reselectFor]
  | succ n ih =>
    unfold reselectFor; split
    · simp
    · simp
    · split
      · simp only [ih]; simp
      · simp

@[simp] theorem reselectIfFreed_keeps (had : Bool) (s : State) :
      (reselectIfFreed had s).settings = s.settings ∧ (reselectIfFreed had s).routes = s.routes ∧ (reselectIfFreed had s).programmes = s.programmes ∧
      (reselectIfFreed had s).clips = s.clips ∧ (reselectIfFreed had s).mixer = s.mixer ∧ (reselectIfFreed had s).emergency = s.emergency ∧
      (reselectIfFreed had s).clock = s.clock ∧ (reselectIfFreed had s).wake = s.wake ∧ (reselectIfFreed had s).timer = s.timer ∧
      (reselectIfFreed had s).lanes = s.lanes ∧ (reselectIfFreed had s).berths = s.berths ∧ (reselectIfFreed had s).test = s.test ∧
      (reselectIfFreed had s).counters = s.counters ∧ (reselectIfFreed had s).orderCount = s.orderCount ∧ (reselectIfFreed had s).pending = s.pending := by
  unfold reselectIfFreed reselect; split <;> simp

@[simp] theorem dueEnds_keeps (s : State) :
      (dueEnds s).settings = s.settings ∧ (dueEnds s).routes = s.routes ∧ (dueEnds s).programmes = s.programmes ∧
      (dueEnds s).clips = s.clips ∧ (dueEnds s).mixer = s.mixer ∧ (dueEnds s).emergency = s.emergency ∧
      (dueEnds s).clock = s.clock ∧ (dueEnds s).wake = s.wake ∧ (dueEnds s).timer = s.timer ∧
      (dueEnds s).lanes = s.lanes ∧ (dueEnds s).berths = s.berths ∧ (dueEnds s).test = s.test ∧
      (dueEnds s).counters = s.counters ∧ (dueEnds s).orderCount = s.orderCount ∧ (dueEnds s).pending = s.pending := by
  unfold dueEnds; split
  · simp
  · split
    · simp
    · split <;> simp

@[simp] theorem repeatOver_keeps (r : Announcement) (s : State) :
      (repeatOver r s).settings = s.settings ∧ (repeatOver r s).routes = s.routes ∧ (repeatOver r s).programmes = s.programmes ∧
      (repeatOver r s).clips = s.clips ∧ (repeatOver r s).mixer = s.mixer ∧ (repeatOver r s).emergency = s.emergency ∧
      (repeatOver r s).clock = s.clock ∧ (repeatOver r s).wake = s.wake ∧ (repeatOver r s).timer = s.timer ∧
      (repeatOver r s).lanes = s.lanes ∧ (repeatOver r s).berths = s.berths ∧ (repeatOver r s).test = s.test ∧
      (repeatOver r s).counters = s.counters ∧ (repeatOver r s).orderCount = s.orderCount ∧ (repeatOver r s).pending = s.pending := by
  unfold repeatOver; split
  · simp
  · split <;> simp

@[simp] theorem playedClip_keeps (r : Announcement) (s : State) :
      (playedClip r s).settings = s.settings ∧ (playedClip r s).routes = s.routes ∧ (playedClip r s).programmes = s.programmes ∧
      (playedClip r s).clips = s.clips ∧ (playedClip r s).mixer = s.mixer ∧ (playedClip r s).emergency = s.emergency ∧
      (playedClip r s).clock = s.clock ∧ (playedClip r s).wake = s.wake ∧ (playedClip r s).timer = s.timer ∧
      (playedClip r s).lanes = s.lanes ∧ (playedClip r s).berths = s.berths ∧ (playedClip r s).test = s.test ∧
      (playedClip r s).counters = s.counters ∧ (playedClip r s).orderCount = s.orderCount ∧ (playedClip r s).pending = s.pending := by
  unfold playedClip; dsimp only; split <;> simp

@[simp] theorem playedGap_keeps (r : Announcement) (s : State) :
      (playedGap r s).settings = s.settings ∧ (playedGap r s).routes = s.routes ∧ (playedGap r s).programmes = s.programmes ∧
      (playedGap r s).clips = s.clips ∧ (playedGap r s).mixer = s.mixer ∧ (playedGap r s).emergency = s.emergency ∧
      (playedGap r s).clock = s.clock ∧ (playedGap r s).wake = s.wake ∧ (playedGap r s).timer = s.timer ∧
      (playedGap r s).lanes = s.lanes ∧ (playedGap r s).berths = s.berths ∧ (playedGap r s).test = s.test ∧
      (playedGap r s).counters = s.counters ∧ (playedGap r s).link = s.link ∧ (playedGap r s).orderCount = s.orderCount ∧
      (playedGap r s).pending = s.pending := by
  unfold playedGap; dsimp only; split <;> simp

@[simp] theorem playedLive_keeps (r : Announcement) (s : State) :
      (playedLive r s).settings = s.settings ∧ (playedLive r s).routes = s.routes ∧ (playedLive r s).programmes = s.programmes ∧
      (playedLive r s).clips = s.clips ∧ (playedLive r s).mixer = s.mixer ∧ (playedLive r s).emergency = s.emergency ∧
      (playedLive r s).clock = s.clock ∧ (playedLive r s).wake = s.wake ∧ (playedLive r s).timer = s.timer ∧
      (playedLive r s).lanes = s.lanes ∧ (playedLive r s).berths = s.berths ∧ (playedLive r s).test = s.test ∧
      (playedLive r s).counters = s.counters ∧ (playedLive r s).orderCount = s.orderCount ∧ (playedLive r s).pending = s.pending := by
  unfold playedLive; dsimp only; split
  · split <;> simp
  · simp

@[simp] theorem accountFrame_keeps (s : State) :
      (accountFrame s).settings = s.settings ∧ (accountFrame s).routes = s.routes ∧ (accountFrame s).programmes = s.programmes ∧
      (accountFrame s).clips = s.clips ∧ (accountFrame s).mixer = s.mixer ∧ (accountFrame s).emergency = s.emergency ∧
      (accountFrame s).clock = s.clock ∧ (accountFrame s).wake = s.wake ∧ (accountFrame s).timer = s.timer ∧
      (accountFrame s).lanes = s.lanes ∧ (accountFrame s).berths = s.berths ∧ (accountFrame s).test = s.test ∧
      (accountFrame s).counters = s.counters ∧ (accountFrame s).orderCount = s.orderCount ∧ (accountFrame s).pending = s.pending := by
  unfold accountFrame; split
  · simp
  · split <;> simp

@[simp] theorem startActive_keeps (s : State) :
      (startActive s).settings = s.settings ∧ (startActive s).routes = s.routes ∧ (startActive s).programmes = s.programmes ∧
      (startActive s).clips = s.clips ∧ (startActive s).mixer = s.mixer ∧ (startActive s).emergency = s.emergency ∧
      (startActive s).clock = s.clock ∧ (startActive s).wake = s.wake ∧ (startActive s).timer = s.timer ∧
      (startActive s).lanes = s.lanes ∧ (startActive s).berths = s.berths ∧ (startActive s).test = s.test ∧
      (startActive s).counters = s.counters ∧ (startActive s).orderCount = s.orderCount ∧ (startActive s).pending = s.pending := by
  unfold startActive; split
  · simp
  · split
    · dsimp only; split <;> simp
    · simp

@[simp] theorem thaw_keeps (s : State) :
      (thaw s).settings = s.settings ∧ (thaw s).routes = s.routes ∧ (thaw s).programmes = s.programmes ∧
      (thaw s).clips = s.clips ∧ (thaw s).mixer = s.mixer ∧ (thaw s).emergency = s.emergency ∧
      (thaw s).clock = s.clock ∧ (thaw s).wake = s.wake ∧ (thaw s).timer = s.timer ∧
      (thaw s).lanes = s.lanes ∧ (thaw s).berths = s.berths ∧ (thaw s).test = s.test ∧
      (thaw s).counters = s.counters ∧ (thaw s).link = s.link ∧ (thaw s).orderCount = s.orderCount ∧
      (thaw s).pending = s.pending := by
  unfold thaw; split
  · simp
  · split
    · simp
    · split <;> simp

@[simp] theorem latchStep_keeps (latch : Bool) (s : State) :
      (latchStep latch s).settings = s.settings ∧ (latchStep latch s).routes = s.routes ∧ (latchStep latch s).programmes = s.programmes ∧
      (latchStep latch s).clips = s.clips ∧ (latchStep latch s).mixer = s.mixer ∧ (latchStep latch s).emergency = s.emergency ∧
      (latchStep latch s).clock = s.clock ∧ (latchStep latch s).wake = s.wake ∧ (latchStep latch s).timer = s.timer ∧
      (latchStep latch s).lanes = s.lanes ∧ (latchStep latch s).berths = s.berths ∧ (latchStep latch s).test = s.test ∧
      (latchStep latch s).counters = s.counters ∧ (latchStep latch s).orderCount = s.orderCount ∧ (latchStep latch s).pending = s.pending := by
  unfold latchStep; split
  · simp
  · split <;> simp

@[simp] theorem voiceFrame_keeps (latch : Bool) (set : BerthSet) (s : State) :
      (voiceFrame latch set s).settings = s.settings ∧ (voiceFrame latch set s).routes = s.routes ∧ (voiceFrame latch set s).programmes = s.programmes ∧
      (voiceFrame latch set s).clips = s.clips ∧ (voiceFrame latch set s).mixer = s.mixer ∧ (voiceFrame latch set s).emergency = s.emergency ∧
      (voiceFrame latch set s).clock = s.clock ∧ (voiceFrame latch set s).wake = s.wake ∧ (voiceFrame latch set s).timer = s.timer ∧
      (voiceFrame latch set s).lanes = s.lanes ∧ (voiceFrame latch set s).berths = s.berths ∧ (voiceFrame latch set s).test = s.test ∧
      (voiceFrame latch set s).counters = s.counters ∧ (voiceFrame latch set s).orderCount = s.orderCount ∧ (voiceFrame latch set s).pending = s.pending := by
  simp [voiceFrame, coverStep]

/-! ## Routes and mixer -/

@[simp] theorem routeFrame_keeps (take : Bool) (s : State) :
      (routeFrame take s).settings = s.settings ∧ (routeFrame take s).programmes = s.programmes ∧ (routeFrame take s).voice = s.voice ∧
      (routeFrame take s).clips = s.clips ∧ (routeFrame take s).mixer = s.mixer ∧ (routeFrame take s).emergency = s.emergency ∧
      (routeFrame take s).clock = s.clock ∧ (routeFrame take s).wake = s.wake ∧ (routeFrame take s).timer = s.timer ∧
      (routeFrame take s).lanes = s.lanes ∧ (routeFrame take s).berths = s.berths ∧ (routeFrame take s).test = s.test ∧
      (routeFrame take s).counters = s.counters ∧ (routeFrame take s).link = s.link ∧ (routeFrame take s).orderCount = s.orderCount ∧
      (routeFrame take s).pending = s.pending := by
  simp [routeFrame]

@[simp] theorem accountMark_keeps (b : Berth) (s : State) :
      (accountMark b s).settings = s.settings ∧ (accountMark b s).routes = s.routes ∧ (accountMark b s).programmes = s.programmes ∧
      (accountMark b s).voice = s.voice ∧ (accountMark b s).clips = s.clips ∧ (accountMark b s).emergency = s.emergency ∧
      (accountMark b s).clock = s.clock ∧ (accountMark b s).wake = s.wake ∧ (accountMark b s).timer = s.timer ∧
      (accountMark b s).lanes = s.lanes ∧ (accountMark b s).berths = s.berths ∧ (accountMark b s).test = s.test ∧
      (accountMark b s).link = s.link ∧ (accountMark b s).orderCount = s.orderCount ∧ (accountMark b s).pending = s.pending := by
  unfold accountMark; split <;> simp

@[simp] theorem accountMarks_keeps (s : State) :
      (accountMarks s).settings = s.settings ∧ (accountMarks s).routes = s.routes ∧ (accountMarks s).programmes = s.programmes ∧
      (accountMarks s).voice = s.voice ∧ (accountMarks s).clips = s.clips ∧ (accountMarks s).emergency = s.emergency ∧
      (accountMarks s).clock = s.clock ∧ (accountMarks s).wake = s.wake ∧ (accountMarks s).timer = s.timer ∧
      (accountMarks s).lanes = s.lanes ∧ (accountMarks s).berths = s.berths ∧ (accountMarks s).test = s.test ∧
      (accountMarks s).link = s.link ∧ (accountMarks s).orderCount = s.orderCount ∧ (accountMarks s).pending = s.pending := by
  unfold accountMarks
  exact ⟨foldl_keeps State.settings (fun s x => by simp) (List.finRange 40) s,
    foldl_keeps State.routes (fun s x => by simp) (List.finRange 40) s,
    foldl_keeps State.programmes (fun s x => by simp) (List.finRange 40) s,
    foldl_keeps State.voice (fun s x => by simp) (List.finRange 40) s,
    foldl_keeps State.clips (fun s x => by simp) (List.finRange 40) s,
    foldl_keeps State.emergency (fun s x => by simp) (List.finRange 40) s,
    foldl_keeps State.clock (fun s x => by simp) (List.finRange 40) s,
    foldl_keeps State.wake (fun s x => by simp) (List.finRange 40) s,
    foldl_keeps State.timer (fun s x => by simp) (List.finRange 40) s,
    foldl_keeps State.lanes (fun s x => by simp) (List.finRange 40) s,
    foldl_keeps State.berths (fun s x => by simp) (List.finRange 40) s,
    foldl_keeps State.test (fun s x => by simp) (List.finRange 40) s,
    foldl_keeps State.link (fun s x => by simp) (List.finRange 40) s,
    foldl_keeps State.orderCount (fun s x => by simp) (List.finRange 40) s,
    foldl_keeps State.pending (fun s x => by simp) (List.finRange 40) s⟩

@[simp] theorem mixerAccount_keeps (s : State) :
      (mixerAccount s).settings = s.settings ∧ (mixerAccount s).routes = s.routes ∧ (mixerAccount s).programmes = s.programmes ∧
      (mixerAccount s).voice = s.voice ∧ (mixerAccount s).clips = s.clips ∧ (mixerAccount s).emergency = s.emergency ∧
      (mixerAccount s).clock = s.clock ∧ (mixerAccount s).wake = s.wake ∧ (mixerAccount s).timer = s.timer ∧
      (mixerAccount s).lanes = s.lanes ∧ (mixerAccount s).berths = s.berths ∧ (mixerAccount s).test = s.test ∧
      (mixerAccount s).link = s.link ∧ (mixerAccount s).orderCount = s.orderCount ∧ (mixerAccount s).pending = s.pending := by
  simp [mixerAccount]

@[simp] theorem mixerGains_keeps (s : State) :
      (mixerGains s).settings = s.settings ∧ (mixerGains s).routes = s.routes ∧ (mixerGains s).programmes = s.programmes ∧
      (mixerGains s).voice = s.voice ∧ (mixerGains s).clips = s.clips ∧ (mixerGains s).emergency = s.emergency ∧
      (mixerGains s).clock = s.clock ∧ (mixerGains s).wake = s.wake ∧ (mixerGains s).timer = s.timer ∧
      (mixerGains s).lanes = s.lanes ∧ (mixerGains s).berths = s.berths ∧ (mixerGains s).test = s.test ∧
      (mixerGains s).counters = s.counters ∧ (mixerGains s).link = s.link ∧ (mixerGains s).orderCount = s.orderCount ∧
      (mixerGains s).pending = s.pending := by
  simp [mixerGains]

@[simp] theorem mixerOutputs_keeps (s : State) :
      (mixerOutputs s).settings = s.settings ∧ (mixerOutputs s).routes = s.routes ∧ (mixerOutputs s).programmes = s.programmes ∧
      (mixerOutputs s).voice = s.voice ∧ (mixerOutputs s).clips = s.clips ∧ (mixerOutputs s).emergency = s.emergency ∧
      (mixerOutputs s).clock = s.clock ∧ (mixerOutputs s).wake = s.wake ∧ (mixerOutputs s).timer = s.timer ∧
      (mixerOutputs s).lanes = s.lanes ∧ (mixerOutputs s).berths = s.berths ∧ (mixerOutputs s).test = s.test ∧
      (mixerOutputs s).counters = s.counters ∧ (mixerOutputs s).link = s.link ∧ (mixerOutputs s).orderCount = s.orderCount ∧
      (mixerOutputs s).pending = s.pending := by
  simp [mixerOutputs]

end Sys2Proof.Machine
end

