-- ==== Sys2Proof/Laws/FrameStart.lean ====
section
/-! SUPPORT. The lane frame start as a whole: what the blocks' work leaves alone, which block's work each part of the
state comes from, and what the answer to a TAKE adds. -/

namespace Sys2Proof.Machine

/-- The answer to a TAKE changes the request buffer alone. -/
theorem answerInHand_fields (r : Reply) (s : State) :
    (answerInHand r s).settings = s.settings ∧ (answerInHand r s).routes = s.routes ∧
    (answerInHand r s).programmes = s.programmes ∧ (answerInHand r s).voice = s.voice ∧
    (answerInHand r s).clips = s.clips ∧ (answerInHand r s).mixer = s.mixer ∧
    (answerInHand r s).emergency = s.emergency ∧ (answerInHand r s).clock = s.clock ∧
    (answerInHand r s).wake = s.wake ∧ (answerInHand r s).timer = s.timer ∧ (answerInHand r s).lanes = s.lanes ∧
    (answerInHand r s).berths = s.berths ∧ (answerInHand r s).test = s.test ∧
    (answerInHand r s).counters = s.counters ∧ (answerInHand r s).orderCount = s.orderCount ∧
    (answerInHand r s).pending = s.pending ∧ (answerInHand r s).link.held = s.link.held ∧
    (answerInHand r s).link.notices = s.link.notices ∧ (answerInHand r s).link.dropped = s.link.dropped ∧
    (answerInHand r s).link.sending = s.link.sending :=
  ⟨rfl, rfl, rfl, rfl, rfl, rfl, rfl, rfl, rfl, rfl, rfl, rfl, rfl, rfl, rfl, rfl, rfl, rfl, rfl, rfl⟩

/-- The frame that has begun differs from the blocks' work in the request buffer alone. -/
theorem frameBegun_work (line : Line) (strobe : Bool) (s : State) :
    ∃ buffer, frameBegun line strobe s = setLink (fun l => { l with buffer := buffer }) (frameWork line strobe s) := by
  unfold frameBegun
  split
  · exact ⟨_, rfl⟩
  · exact ⟨(frameWork line strobe s).link.buffer, rfl⟩

/-- The blocks' work leaves the settings, the clips and the queue of commands alone. -/
@[simp] theorem frameWork_leaves (line : Line) (strobe : Bool) (s : State) :
    (frameWork line strobe s).settings = s.settings ∧ (frameWork line strobe s).clips = s.clips ∧
    (frameWork line strobe s).pending = s.pending := by
  simp [frameWork]

/-- The same of the frame that has begun. -/
@[simp] theorem frameBegun_leaves (line : Line) (strobe : Bool) (s : State) :
    (frameBegun line strobe s).settings = s.settings ∧ (frameBegun line strobe s).clips = s.clips ∧
    (frameBegun line strobe s).pending = s.pending := by
  obtain ⟨b, h⟩ := frameBegun_work line strobe s
  rw [h]
  exact frameWork_leaves line strobe s

/-- The frame timer, the programmes and the emergency line after the blocks' work, from the state before it: no other
block changes them. -/
theorem frameBegun_inputs (line : Line) (strobe : Bool) (s : State) :
    (frameBegun line strobe s).timer = (timerFrame strobe s).timer ∧
    (frameBegun line strobe s).programmes =
      (programmeFrame (snapshotAt (snapshotDue s) 0 (timerFrame strobe s))).programmes ∧
    (frameBegun line strobe s).emergency = (emergencyFrame line
      (snapshotAt (snapshotDue s) 1 (programmeFrame (snapshotAt (snapshotDue s) 0 (timerFrame strobe s))))).emergency := by
  obtain ⟨b, h⟩ := frameBegun_work line strobe s
  rw [h]
  simp [frameWork]

/-- The part once the timer, the programmes, the emergency line, the closing of the last frame and the lane test have
done their work: what the clock finds. -/
def beforeClock (line : Line) (strobe : Bool) (s : State) : State :=
  let due := snapshotDue s
  let x := emergencyFrame line (snapshotAt due 1 (programmeFrame (snapshotAt due 0 (timerFrame strobe s))))
  let y := snapshotAt due 2 (closeFrame x)
  testFrame y.emergency.latch y

/-- What the voice channel finds. -/
def beforeVoice (line : Line) (strobe : Bool) (s : State) : State := clockFrame (beforeClock line strobe s)

/-- What the mixer finds: the voice channel, the routes and the chimes have done their work. -/
def beforeMixer (line : Line) (strobe : Bool) (s : State) : State :=
  let x := beforeVoice line strobe s
  chimeFrame (routeFrame (takeWaits s) (voiceFrame x.emergency.latch x.test.frameSet x))

/-- The blocks' work from the mixer on. -/
theorem frameWork_eq (line : Line) (strobe : Bool) (s : State) :
    frameWork line strobe s = closeBank (snapshotDue s) (sendFrames (mixerOutputs (handOutWords (mixerGains
      (snapshotAt (snapshotDue s) 3 (mixerAccount (beforeMixer line strobe s))))))) := by
  unfold frameWork beforeMixer beforeVoice beforeClock
  with_reducible rfl

/-- What the clock finds of the blocks that come after it, and of the ones that are done. -/
@[simp] theorem beforeClock_keeps (line : Line) (strobe : Bool) (s : State) :
    (beforeClock line strobe s).settings = s.settings ∧ (beforeClock line strobe s).routes = s.routes ∧
    (beforeClock line strobe s).voice = s.voice ∧ (beforeClock line strobe s).clips = s.clips ∧
    (beforeClock line strobe s).mixer = s.mixer ∧ (beforeClock line strobe s).clock = s.clock ∧
    (beforeClock line strobe s).wake = s.wake ∧ (beforeClock line strobe s).pending = s.pending := by
  simp [beforeClock]

/-- The clock after a lane frame start is what its own work makes of it. -/
theorem frameBegun_clock (line : Line) (strobe : Bool) (s : State) :
    (frameBegun line strobe s).clock = (clockFrame (beforeClock line strobe s)).clock := by
  obtain ⟨b, h⟩ := frameBegun_work line strobe s
  rw [h, frameWork_eq]
  simp [beforeMixer, beforeVoice]

/-- The emergency line, the lane test set of the frame, the berths and the clock that the voice channel reads are those
of the frame that has begun. -/
theorem beforeVoice_reads (line : Line) (strobe : Bool) (s : State) :
    (beforeVoice line strobe s).emergency = (frameBegun line strobe s).emergency ∧
    (beforeVoice line strobe s).clock = (frameBegun line strobe s).clock ∧
    (beforeVoice line strobe s).berths = (frameBegun line strobe s).berths ∧
    (beforeVoice line strobe s).settings = s.settings ∧ (beforeVoice line strobe s).voice = s.voice ∧
    (beforeVoice line strobe s).clips = s.clips ∧ (beforeVoice line strobe s).routes = s.routes := by
  obtain ⟨b, h⟩ := frameBegun_work line strobe s
  rw [h, frameWork_eq]
  simp [beforeMixer, beforeVoice]

/-- The voice channel after a lane frame start is what its own work makes of it, under the latch and the lane test set
of that frame. -/
theorem frameBegun_voice (line : Line) (strobe : Bool) (s : State) :
    (frameBegun line strobe s).voice = (voiceFrame (beforeVoice line strobe s).emergency.latch
      (beforeVoice line strobe s).test.frameSet (beforeVoice line strobe s)).voice := by
  obtain ⟨b, h⟩ := frameBegun_work line strobe s
  rw [h, frameWork_eq]
  simp [beforeMixer]

/-- The routes and the wake list after a lane frame start are those that the mixer finds. -/
theorem frameBegun_mixed (line : Line) (strobe : Bool) (s : State) :
    (frameBegun line strobe s).routes = (beforeMixer line strobe s).routes ∧
    (frameBegun line strobe s).wake = (beforeMixer line strobe s).wake ∧
    (frameBegun line strobe s).programmes = (beforeMixer line strobe s).programmes ∧
    (frameBegun line strobe s).voice = (beforeMixer line strobe s).voice := by
  obtain ⟨b, h⟩ := frameBegun_work line strobe s
  rw [h, frameWork_eq]
  simp

/-- The notices after a lane frame start are those queued up to the chimes: the mixer, the lanes' frames and the counter
bank queue none. -/
theorem frameBegun_notices (line : Line) (strobe : Bool) (s : State) :
    (frameBegun line strobe s).link.notices = (beforeMixer line strobe s).link.notices ∧
    (frameBegun line strobe s).link.dropped = (beforeMixer line strobe s).link.dropped := by
  obtain ⟨b, h⟩ := frameBegun_work line strobe s
  rw [h, frameWork_eq]
  simp

end Sys2Proof.Machine
end

