-- ==== Sys2Proof/Laws/Keeps.lean ====
section
/-! SUPPORT. The induction over commands, packaged once: what every act of the part keeps, every step keeps. -/

namespace Sys2Proof.Machine

/-- Every act from which commands are made keeps P, and P does not speak of the link. -/
structure Keeps (P : State → Prop) : Prop where
  link          : ∀ f s, P s → P (setLink f s)
  raised        : ∀ c n s, P s → P (raise c n s)
  passOn        : ∀ r p s, P s → P (passOn r p s).1
  frame         : ∀ line strobe s, P s → P (frameWork line strobe s)
  powerOn       : ∀ s, P s → P (powerOn s)
  restart       : ∀ s, P s → P (restartPart s)
  strobe        : ∀ s, P s → P (strobeSeen s)
  referenceLost : ∀ s, P s → P (referenceLostEvent s)
  guardExpired  : ∀ b s, P s → P (guardExpiredEvent b s)
  stall         : ∀ p s, P s → P (stallEvent p s)
  cell          : ∀ p e v s, P s → P (cellArrives p e v s)
  audio         : ∀ p n x c s, P s → P (audioArrives p n x c s)
  mic           : ∀ m x s, P s → P (micArrives m x s)
  repeatEnd     : ∀ s, P s → P (repeatEndEvent s)
  gapEnd        : ∀ s, P s → P (gapEndEvent s)
  liveTimeout   : ∀ s, P s → P (liveTimeoutEvent s)
  peakPeriod    : ∀ s, P s → P (peakPeriodEvent s)
  alarm         : ∀ s, P s → P (alarmAcceptedEvent s)
  second        : ∀ s, P s → P (secondTickEvent s)
  minute        : ∀ s, P s → P (minuteTickEvent s)
  ringLimit     : ∀ b s, P s → P (ringLimitEvent b s)
  trained       : ∀ l s, P s → P (laneTrainedEvent l s)
  syncLoss      : ∀ l s, P s → P (laneSyncLossEvent l s)
  trailer       : ∀ l e c s, P s → P (trailerArrives l e c s)
  slot          : ∀ b x s, P s → P (slotArrives b x s)
  present       : ∀ b s, P s → P (berthPresentEvent b s)
  absent        : ∀ b s, P s → P (berthAbsentEvent b s)
  field         : ∀ b f s, P s → P (fieldAcceptedEvent b f s)
  snapshot      : ∀ s, P s → P (autoSnapshotEvent s)

variable {P : State → Prop} (k : Keeps P)
include k

theorem Keeps.handle (f : LinkFrame) (s : State) (h : P s) : P (handle f s).1 := by
  unfold Machine.handle
  split
  · exact h
  · split
    · exact k.passOn _ _ _ h
    · exact h

theorem Keeps.serveFor (n : Nat) (s : State) (h : P s) : P (serveFor n s) := by
  induction n generalizing s with
  | zero => exact h
  | succ n ih =>
    unfold Machine.serveFor
    split
    · exact h
    · split
      · exact h
      · rename_i f buffer _
        have h1 := k.handle f _ (k.link (fun l => { l with buffer := buffer }) s h)
        split <;> rename_i hx <;> rw [hx] at h1
        · exact ih _ (k.link _ _ h1)
        · exact h1

theorem Keeps.settle (s : State) (h : P s) : P (settle s) := k.link _ _ (k.serveFor _ s h)

theorem Keeps.requestArrives (f : LinkFrame) (s : State) (h : P s) : P (requestArrives f s) := by
  unfold Machine.requestArrives receiveFrame
  split
  · exact k.settle _ (k.link _ _ h)
  · exact k.settle _ (k.raised _ _ _ h)

theorem Keeps.hunt (n : Nat) (bytes : List Byte) (s : State) (h : P s) : P (hunt n bytes s) := by
  induction n generalizing bytes s with
  | zero => exact k.link _ _ h
  | succ n ih =>
    unfold Machine.hunt
    split
    · exact k.link _ _ h
    · exact k.link _ _ h
    · rename_i hn
      cases hn
      split
      · split
        · exact k.link _ _ h
        · exact ih _ _ (k.raised _ _ _ h)
        · exact ih _ _ (k.requestArrives _ _ h)
      · exact ih _ _ h

theorem Keeps.receiveBytes (bytes : List Byte) (s : State) (h : P s) : P (receiveBytes bytes s) :=
  k.hunt _ _ _ h

theorem Keeps.interByteGap (s : State) (h : P s) : P (interByteGapEvent s) := by
  unfold interByteGapEvent
  split
  · exact h
  · exact k.hunt _ _ _ (k.raised _ _ _ h)

theorem Keeps.restartReset (s : State) (h : P s) : P (restartResetEvent s) := by
  unfold restartResetEvent
  split
  · exact k.settle _ (k.restart _ h)
  · exact h

theorem Keeps.frameSent (s : State) (h : P s) : P (frameSent s) := by
  unfold Machine.frameSent
  split
  · exact h
  · exact k.settle _ (k.link _ _ h)
  · split
    · exact k.settle _ (k.restart _ h)
    · exact k.settle _ (k.link _ _ h)

theorem Keeps.frameBegun (line : Line) (strobe : Bool) (s : State) (h : P s) : P (frameBegun line strobe s) := by
  unfold Machine.frameBegun
  split
  · exact k.link _ _ (k.frame _ _ _ h)
  · exact k.frame _ _ _ h

theorem Keeps.frameStart (line : Line) (strobe : Bool) (s : State) (h : P s) : P (frameStart line strobe s) :=
  k.settle _ (k.frameBegun _ _ _ h)

/-- What the acts keep, every command keeps. -/
theorem Keeps.exec {c : Instr} {s t : State} (h : P s) (e : exec c s = .next t) : P t := by
  cases c <;> unfold Machine.exec at e <;> dsimp only at e
  case powerOnReset => cases e; exact k.powerOn _ h
  case laneFrameStart => cases e; exact k.frameStart _ _ _ h
  case portFrameStrobe =>
    unfold execPortFrameStrobe at e
    split at e <;> cases e
    · exact k.frameStart _ _ _ h
    · exact k.settle _ (k.strobe _ h)
  case referenceLost => cases e; exact k.settle _ (k.referenceLost _ h)
  case switchGuardExpired => cases e; exact k.settle _ (k.guardExpired _ _ h)
  case programmeStall => cases e; exact k.settle _ (k.stall _ _ h)
  case cellArrival => cases e; exact k.settle _ (k.cell _ _ _ _ h)
  case audioBlockArrival => cases e; exact k.settle _ (k.audio _ _ _ _ _ h)
  case micSample => cases e; exact k.settle _ (k.mic _ _ _ h)
  case repeatEnd => cases e; exact k.settle _ (k.repeatEnd _ h)
  case gapEnd => cases e; exact k.settle _ (k.gapEnd _ h)
  case liveTimeout => cases e; exact k.settle _ (k.liveTimeout _ h)
  case peakPeriodEnd => cases e; exact k.settle _ (k.peakPeriod _ h)
  case alarmAccepted => cases e; exact k.settle _ (k.alarm _ h)
  case secondTick => cases e; exact k.settle _ (k.second _ h)
  case minuteTick => cases e; exact k.settle _ (k.minute _ h)
  case ringLimit => cases e; exact k.settle _ (k.ringLimit _ _ h)
  case laneTrained => cases e; exact k.settle _ (k.trained _ _ h)
  case laneSyncLoss => cases e; exact k.settle _ (k.syncLoss _ _ h)
  case trailerArrival => cases e; exact k.settle _ (k.trailer _ _ _ _ h)
  case upstreamSlot => cases e; exact k.settle _ (k.slot _ _ _ h)
  case berthPresent => cases e; exact k.settle _ (k.present _ _ h)
  case berthAbsent => cases e; exact k.settle _ (k.absent _ _ h)
  case statusFieldAccepted => cases e; exact k.settle _ (k.field _ _ _ h)
  case autoSnapshot => cases e; exact k.settle _ (k.snapshot _ h)
  case frameReceived => cases e; exact k.settle _ (k.receiveBytes _ _ h)
  case interByteGap => cases e; exact k.settle _ (k.interByteGap _ h)
  case transmitFrameDone => cases e; exact k.frameSent _ h
  case restartReset => cases e; exact k.restartReset _ h
  case syncByte => cases e; exact k.settle _ (k.receiveBytes _ _ h)
  case lengthAbove1000 => cases e; exact k.settle _ (k.receiveBytes _ _ h)
  all_goals cases e; exact k.requestArrives _ _ h

/-- What the acts keep, every step keeps, if it does not speak of the queue. -/
theorem Keeps.step (hp : ∀ q s, P s → P { s with pending := q }) {s t : State} (h : P s) (e : step s = .next t) :
    P t := by
  unfold Machine.step at e
  split at e
  · cases e; exact h
  · exact k.exec (hp _ _ h) e

end Sys2Proof.Machine
end

