-- ==== Sys2Proof/Laws/Operands.lean ====
section
/-! SUPPORT. What reading a request's fields gives: each reader undoes the writing of its field, and each check of
a number accepts exactly its range. -/

namespace Sys2Proof.Machine

/-! ## Fields of a payload -/

@[simp] theorem field8_cons_zero (b : Byte) (p : List Byte) : field8 (b :: p) 0 = b := rfl

@[simp] theorem field8_cons_succ (b : Byte) (p : List Byte) (i : Nat) : field8 (b :: p) (i + 1) = field8 p i := rfl

theorem high_low (w : BitVec 16) : highByte w ++ lowByte w = w := by
  apply BitVec.eq_of_getLsbD_eq
  intro i hi
  simp only [highByte, lowByte, BitVec.getLsbD_append, BitVec.getLsbD_extractLsb']
  by_cases h : i < 8
  · simp [h]
  · simp [h, show i - 8 < 8 by omega, show 8 + (i - 8) = i by omega]

theorem field16_high_low (w : BitVec 16) (p : List Byte) : field16 (highByte w :: lowByte w :: p) 0 = w :=
  high_low w

/-- Reading two bytes at a place gives the field that was written there. -/
theorem field16_append (p : List Byte) (w : BitVec 16) (q : List Byte) :
    field16 (p ++ be16 w ++ q) p.length = w := by
  have h0 : field8 (p ++ be16 w ++ q) p.length = highByte w := by
    simp [field8, be16, List.getD_eq_getElem?_getD]
  have h1 : field8 (p ++ be16 w ++ q) (p.length + 1) = lowByte w := by
    simp [field8, be16, List.getD_eq_getElem?_getD]
  unfold field16; rw [h0, h1]; exact high_low w

theorem field32_be32 (b c : Byte) (w : BitVec 32) (q : List Byte) :
    field32 (b :: c :: (be32 w ++ q)) 2 = w := by
  show (w.extractLsb' 24 8 ++ w.extractLsb' 16 8) ++ (w.extractLsb' 8 8 ++ w.extractLsb' 0 8) = w
  apply BitVec.eq_of_getLsbD_eq
  intro i hi
  simp only [BitVec.getLsbD_append, BitVec.getLsbD_extractLsb']
  rcases (by omega : i < 8 ∨ (8 ≤ i ∧ i < 16) ∨ (16 ≤ i ∧ i < 24) ∨ 24 ≤ i) with h | h | h | h
  · simp [h, show i < 16 by omega]
  · simp [show ¬ i < 8 by omega, show i < 16 by omega, show i - 8 < 8 by omega, show 8 + (i - 8) = i by omega]
  · simp [show ¬ i < 16 by omega, show i - 16 < 8 by omega, show 16 + (i - 16) = i by omega]
  · simp [show ¬ i < 16 by omega, show ¬ i - 16 < 8 by omega, show i - 16 - 8 < 8 by omega,
      show 24 + (i - 16 - 8) = i by omega]

theorem setField_read (set : BerthSet) : fieldSet (setField set) 0 = set := by
  show set.extractLsb' 32 8 ++ (set.extractLsb' 24 8 ++ (set.extractLsb' 16 8 ++
    (set.extractLsb' 8 8 ++ set.extractLsb' 0 8))) = set
  apply BitVec.eq_of_getLsbD_eq
  intro i hi
  simp only [BitVec.getLsbD_append, BitVec.getLsbD_extractLsb']
  rcases (by omega : i < 8 ∨ (8 ≤ i ∧ i < 16) ∨ (16 ≤ i ∧ i < 24) ∨ (24 ≤ i ∧ i < 32) ∨ 32 ≤ i) with
    h | h | h | h | h
  · simp [h, show i < 32 by omega, show i < 24 by omega, show i < 16 by omega]
  · simp [show ¬ i < 8 by omega, show i < 32 by omega, show i < 24 by omega, show i < 16 by omega,
      show i - 8 < 8 by omega, show 8 + (i - 8) = i by omega]
  · simp [show ¬ i < 16 by omega, show i < 32 by omega, show i < 24 by omega, show i - 16 < 8 by omega,
      show 16 + (i - 16) = i by omega]
  · simp [show ¬ i < 24 by omega, show i < 32 by omega, show i - 24 < 8 by omega, show 24 + (i - 24) = i by omega]
  · simp [show ¬ i < 32 by omega, show i - 32 < 8 by omega, show 32 + (i - 32) = i by omega]

theorem fieldSet_setField (p q : List Byte) (set : BerthSet) :
    fieldSet (p ++ (setField set ++ q)) p.length = set := by
  have h (k : Nat) : field8 (p ++ (setField set ++ q)) (p.length + k) = field8 (setField set ++ q) k := by
    unfold field8
    rw [List.getD_eq_getElem?_getD, List.getD_eq_getElem?_getD, List.getElem?_append_right (by omega),
      Nat.add_sub_cancel_left]
  unfold fieldSet
  rw [h, h, h, h, show field8 (p ++ (setField set ++ q)) p.length = field8 (setField set ++ q) 0 from h 0]
  exact setField_read set

@[simp] theorem setField_length (set : BerthSet) : (setField set).length = 5 := rfl

theorem be16_flatten_length (ws : List (BitVec 16)) : (ws.map be16).flatten.length = 2 * ws.length := by
  induction ws with
  | nil => rfl
  | cons w ws ih => simp only [List.map_cons, List.flatten_cons, List.length_append, ih, be16, List.length_cons,
      List.length_nil]; omega

/-- Reading as many two-byte fields as were written gives them back. -/
theorem field16s_flatten (p : List Byte) (ws : List (BitVec 16)) :
    field16s (p ++ (ws.map be16).flatten) p.length ws.length = ws := by
  apply List.ext_getElem
  · simp [field16s]
  intro k h1 h2
  have hk : k < ws.length := by simpa [field16s] using h1
  obtain ⟨as, w, bs, rfl, rfl⟩ : ∃ as w bs, ws = as ++ w :: bs ∧ k = as.length :=
    ⟨ws.take k, ws[k], ws.drop (k + 1), by simp, by simp; omega⟩
  have : field16 ((p ++ (as.map be16).flatten) ++ be16 w ++ (bs.map be16).flatten)
      (p ++ (as.map be16).flatten).length = w := field16_append _ _ _
  simp only [List.length_append, be16_flatten_length, List.append_assoc] at this
  simp [field16s, this]

/-! ## Checks of a number -/

theorem indexOf_none {n : Nat} {b : Byte} (h : b.toNat < 1 ∨ n < b.toNat) : indexOf n b = none :=
  dif_neg (by omega)

theorem indexOf_some {n : Nat} {b : Byte} {i : Fin n} (h : b.toNat = i.val + 1) : indexOf n b = some i := by
  have := i.isLt
  unfold indexOf
  rw [dif_pos ⟨by omega, by omega⟩]
  congr 1; exact Fin.ext (by simp; omega)

theorem below_none {n : Nat} {b : Byte} (h : n ≤ b.toNat) : below n b = none := dif_neg (by omega)

theorem below_some {n : Nat} {b : Byte} {i : Fin n} (h : b.toNat = i.val) : below n b = some i := by
  have := i.isLt
  unfold below; rw [dif_pos (by omega)]
  congr 1; exact Fin.ext h

theorem yesNo_none {b : Byte} (h : 1 < b.toNat) : yesNo b = none := by
  unfold yesNo
  rw [if_neg (by rintro rfl; simp at h), if_neg (by rintro rfl; simp at h)]

theorem cardOf_none {b : Byte} (h : 253 < b.toNat) : cardOf b = none := by
  have := b.isLt
  unfold cardOf
  rw [if_neg (by rintro rfl; simp at h), if_pos]
  rcases (by omega : b.toNat = 254 ∨ b.toNat = 255) with h | h
  · exact .inl (BitVec.eq_of_toNat_eq h)
  · exact .inr (BitVec.eq_of_toNat_eq h)

theorem cardOf_some {b : Byte} (h : b.toNat ≤ 253) : cardOf b = some (if b = 0 then none else some b) := by
  unfold cardOf
  split
  · rfl
  · rw [if_neg (by rintro (rfl | rfl) <;> simp at h)]

end Sys2Proof.Machine
end

