-- ==== Sys2Proof/Laws/Requests.lean ====
section
/-! SUPPORT. A request that is handed over at once: what its command answers, by the block's handler alone. -/

namespace Sys2Proof.Machine

theorem requestOf_code (r : Request) : requestOf r.code = some r := by cases r <;> decide

/-- A payload of the length its kind requires is passed to the block that owns it (R180). -/
theorem handle_code {r : Request} {p : List Byte} (serial : Byte) (s : State)
    (h : requiredLength r p = some p.length) : handle (requestFrame r serial p) s = passOn r p s := by
  unfold handle requestFrame; simp only [requestOf_code]; rw [if_pos h]

theorem handle_badLength {r : Request} {p : List Byte} (serial : Byte) (s : State)
    (h : requiredLength r p ≠ some p.length) :
    handle (requestFrame r serial p) s = (s, .reply (refuse .badLength)) := by
  unfold handle requestFrame; simp only [requestOf_code]; rw [if_neg h]

theorem request_handled {r : Request} {p : List Byte} (serial : Byte) {s : State} (hs : LinkReady s)
    (h : requiredLength r p = some p.length) :
    request r serial p s = .next (match passOn r p s with
      | (s', .reply x) => s'.answered (requestFrame r serial p) x
      | (s', .held) => s'.inHand (requestFrame r serial p)) := by
  have answers := request_ready (requestFrame r serial p) s hs
  rw [handle_code _ _ h] at answers
  exact congrArg Host.Outcome.next answers

/-- The command of a request's row is the arrival of its frame. -/
theorem exec_carried {c : Instr} {f : LinkFrame} (s : State) (h : carriedFrame c = some f) :
    exec c s = .next (requestArrives f s) := by
  cases c <;> simp only [carriedFrame, reduceCtorEq] at h <;> (cases Option.some.inj h; rfl)

/-- A request whose handler always replies is answered with that reply on the state the handler leaves. -/
theorem request_replied {r : Request} {p : List Byte} (serial : Byte) {s : State} (hs : LinkReady s)
    (h : requiredLength r p = some p.length) {x : State × Reply} (hx : passOn r p s = replied x) :
    request r serial p s = .next (x.1.answered (requestFrame r serial p) x.2) := by
  rw [request_handled _ hs h, hx]; rfl

end Sys2Proof.Machine
end

