-- ==== Sys2Proof/Tests/Slice0.lean ====
section
/-! SUPPORT. Tests. The ill-formed commands that WellFormed refuses; a few commands each on a small state, with the
results that tables and worked sequences of spec/ give; and, for each statement with hypotheses, states and operands
that meet them, clause by clause. -/

namespace Sys2Proof.Tests

open Sys2Proof Sys2Proof.Machine

/-! ## States and readings -/

/-- The part after reset, once the READY notice has been sent. -/
def idle : State := { State.reset with link := {} }

/-- The same within a lane frame. -/
def begunIdle : State := { idle with mixer := { idle.mixer with frameOpen := true } }

/-- The state that a command leaves. -/
def after (c : Instr) (s : State) : State :=
  match exec c s with
  | .next t => t
  | .fault _ => s
  | .refused _ => s

/-- The state that commands one after the other leave. -/
def run (cs : List Instr) (s : State) : State := cs.foldl (fun s c => after c s) s

/-- The result and the items of the youngest entry of the request buffer. -/
def answer (s : State) : Option (List Byte) :=
  match s.link.buffer.getLast? with
  | some e =>
    match e.state with
    | .answered r => some (r.result.code :: r.items)
    | _ => none
  | none => none

/-- The notice being sent. -/
def noticeSent (s : State) : Option Notice :=
  match s.link.sending with
  | some (.notice n) => some n
  | _ => none

/-! ## WellFormed refuses -/

def shortSlot : UpSlot := { echo := 0, status := 0, loopback := [], crc := 0 }

theorem test_refuses_short_cell : (Instr.cellArrival 1 true []).wellFormed = false := by decide
theorem test_refuses_short_slot : (Instr.upstreamSlot 0 shortSlot).wellFormed = false := by decide
theorem test_refuses_empty_run : (Instr.frameReceived []).wellFormed = false := by decide
theorem test_refuses_long_run : (Instr.frameReceived (List.replicate 1008 0)).wellFormed = false := by
  decide +kernel
theorem test_refuses_assigned_kind : (Instr.unknownRequest 0x01 0 []).wellFormed = false := by decide
theorem test_refuses_long_payload :
    (Instr.unknownRequest 0x07 0 (List.replicate 1001 0)).wellFormed = false := by decide +kernel
theorem test_refuses_15_values : (Instr.curveSet 0 (List.replicate 15 0)).wellFormed = false := by decide
theorem test_refuses_497_samples :
    (Instr.clipData 0 1 0 0 497 (List.replicate 497 0)).wellFormed = false := by decide +kernel
theorem test_refuses_length_1000 : (Instr.lengthAbove1000 0x03 0xE8).wellFormed = false := by decide

/-! ## Tables of the spec -/

/-- R177: the CRC over 0x31 to 0x39. -/
theorem test_crc : crc16 [0x31, 0x32, 0x33, 0x34, 0x35, 0x36, 0x37, 0x38, 0x39] = 0x29B1 := by decide +kernel

/-- R164: the first three test words from the seed of all ones. -/
theorem test_words : (generatorWords 3 (BitVec.allOnes 15)).1 = [2, 12, 40] := by decide +kernel

/-- R90: the table of the duck. -/
theorem test_duck : [duck 4096 2048, duck 8192 2048, duck 32767 2048, duck 32767 32767, duck 1 2048] =
    [256, 512, 2048, 32766, 0] := by decide

/-- R96: the table of the rounding. -/
theorem test_round : [roundQ15 16384, roundQ15 16383, roundQ15 (-16384), roundQ15 (-16385), roundQ15 (-49152),
    roundQ15 1073725440] = [1, 0, 0, -1, -1, 32768] := by decide

/-- R99: the table of the EMERGENCY path. -/
theorem test_emergency_out : [32767, 16384, 1, 0, -1, -32768].map (fun m => (emergencyOut (BitVec.ofInt 16 m)).toInt) =
    [32766, 16384, 1, 0, -1, -32767] := by decide

/-- R102: the table of the peak level. -/
theorem test_peak_level : [0, 1, 255, 256, 1219, 16383, 16384, 32767].map peakLevelOf =
    [0, 1, 8, 9, 11, 14, 15, 15] := by decide

/-- R121: the window from 1439 to 0 holds one minute. -/
theorem test_night_window : inWindow 1439 0 1439 = true ∧ inWindow 1439 0 0 = false ∧ inWindow 1320 390 389 = true ∧
    inWindow 1320 390 390 = false ∧ inWindow 600 600 600 = false := by decide

/-- R131: the table of due minutes. -/
theorem test_due : [dueMinute 1660 20, dueMinute 1675 20, dueMinute 30 45, dueMinute 11519 5] =
    [1640, 1655, 0, 11514] := by decide

/-- Section 5.8.1: a berth at night under a SERVICE announcement. -/
theorem test_mix_service :
    let g := gainsFor {} State.reset.mixer.curve false false true 11 15 true true (some .service)
    let y := mixSample g 16384 (12000, 11000) 9000 0 0 0
    (g.gp, g.ga, g.gsp, g.gsa) = (256, 4096, 0, 0) ∧ (y.left, y.right, y.speaker) = (1219, 1211, 0) ∧
      y.clamped = false := by decide

/-- Section 5.8.2: a SAFETY announcement at full scale clamps both headphones. -/
theorem test_mix_safety :
    let g := gainsFor {} State.reset.mixer.curve false false false 15 15 true true (some .safety)
    let y := mixSample g 16384 (-30000, -30000) (-32768) 0 0 0
    (y.left.toInt, y.right.toInt, y.speaker.toInt) = (-32768, -32768, -32767) ∧ y.clamped = true := by decide

/-! ## Commands -/

/-- R187 after reset: LOCAL and four DOWN lanes, all else 0. -/
theorem test_status : answer (after (.status 7) idle) =
    some [0, 0, 0, 0, 0, 0, 0, 0, 0, 0, 1, 1, 1, 1, 0, 0] := by decide

/-- R185: alarm filter 0 is clamped to 1, and the reply carries 1 (section 11.8). -/
theorem test_setting_set : answer (after (.settingSet 7 17 0) idle) = some [0, 17, 0, 1] := by decide

/-- Section 11.5: setting 7 is 23170 after reset. -/
theorem test_setting_get : answer (after (.settingGet 7 7) idle) = some [0, 7, 0x5A, 0x82] := by decide

/-- Section 11.8: a TAKE holds the hand-over, and a STATUS waits behind it. -/
theorem test_take_holds :
    (run [.take 5, .status 6] idle).link.buffer.map BufferEntry.state = [.inHand, .waiting] := by decide

/-- R3, R19: the staged record reads back as coded, the active one keeps its reset values. -/
theorem test_route_set : answer (run [.routeSet 1 0x8000000000 2 3 1 253 15 0 0, .routeGet 2 40] idle) =
    some [0, 2, 3, 1, 253, 15, 0, 0, 0, 0, 0, 15, 1, 0, 1, 2, 0] := by decide

/-- Section 2.7: entry points 48 and then 54 frames apart. -/
theorem test_intervals :
    let s := run [.cellArrival 4 true []] begunIdle
    let s := after (.cellArrival 4 true []) (setProgramme 3 (fun r => { r with interval := some 48 }) s)
    let s := after (.cellArrival 4 true []) (setProgramme 3 (fun r => { r with interval := some 54 }) s)
    (s.programmes[3].lastInterval, s.programmes[3].minInterval, s.programmes[3].maxInterval) =
      (some 54, some 48, some 54) := by decide

/-- R23: a cell that arrives before the first lane frame start after a reset is lost. -/
theorem test_first_frame_empty :
    (after (.cellArrival 4 true []) idle).programmes[3] = {} ∧
      (after (.cellArrival 4 true []) begunIdle).programmes[3].state = .running := by decide

/-- Section 4.8: 5000 samples take blocks 0, 1 and 2, and 4093 blocks stay free. -/
theorem test_clip_open :
    answer (after (.clipOpen 1 7 0 5000) { idle with clips := { State.reset.clips with free := List.range 8 } }) =
      some [0, 0, 3, 0, 5] ∧
    ((after (.clipOpen 1 7 0 5000) { idle with clips := { State.reset.clips with free := List.range 8 } }).clips.variant
      6 0).chain = [0, 1, 2] := by decide

/-- R82: the first line of the table of readers. -/
theorem test_reader :
    let s := run [.clipOpen 1 1 0 2, .clipData 2 1 0 0 2 [1000, -1001]]
      { idle with clips := { State.reset.clips with free := [0] } }
    let r : Reader := { clip := 0, variant := 0, samples := 2, position := 0 }
    (s.clips.variant 0 0).state = .ready ∧
      [0, 1, 2, 3, 4].map (fun q => (r.outputAt s.clips q).toInt) = [1000, -1, -1001, -501, 0] := by decide

/-- R42: a class above the active one preempts it, an equal one waits. -/
theorem test_announce :
    let s := run [.announce 1 10 1 1 0 1 1 0, .announce 2 11 2 2 0 1 1 0, .announce 3 12 2 1 0 1 1 0] idle
    s.voice.active.map Announcement.id = some 11 ∧ s.voice.stack.map Announcement.id = [10] ∧
      s.voice.waiting.map Announcement.id = [12] ∧ answer s = some [0, 1] := by decide

/-- R53, R54: ANN_END of a stack record is refused with WRONG_STATE, ANN_WITHDRAW of no record with NOT_FOUND. -/
theorem test_ann_end :
    let s := run [.announce 1 10 1 1 0 1 1 0, .announce 2 11 2 2 0 1 1 0] idle
    answer (after (.annEnd 3 10) s) = some [Result.wrongState.code] ∧
      answer (after (.annWithdraw 3 99) s) = some [Result.notFound.code] := by decide

/-- R53, step 1 of R57: the live limit of a record whose end is due ends it DONE. -/
theorem test_due_end_first :
    noticeSent (run [.annEnd 3 10, .liveTimeout] { idle with
      voice := { active := some { id := 10, cls := .stop, origin := .mic .micA, berths := 1, repeats := 1, card := none } } }) =
      none ∧
    ((run [.annEnd 3 10, .liveTimeout] { idle with
      voice := { active := some { id := 10, cls := .stop, origin := .mic .micA, berths := 1, repeats := 1, card := none } } }).link.notices =
      [.annEnded 10 .done]) := by decide

/-- R113: day 1 03:40 is journey minute 1660; and the default night ends at 06:30. -/
theorem test_clock_set :
    answer (run [.clockSet 1 1 3 40 0, .clockGet 2] idle) =
      some [0, 1, 0, 1, 3, 40, 0, 0, 0, 0x06, 0x7C, 1] := by decide

/-- R116: at day 7 23:59:59 the second tick holds the clock. -/
theorem test_clock_limit :
    let s := run [.clockSet 1 7 23 59 59, .secondTick] idle
    s.clock.held = true ∧ s.clock.second = 59 ∧ s.clock.day = 7 := by decide

/-- Section 8.9: the list order of the four bookings, and after the revised ETA of stop 5. -/
theorem test_wake_order :
    let s := run [.stopSet 1 5 1660 21, .stopSet 2 6 1700 0, .stopSet 3 7 1700 22, .wakeSet 4 14 5 20,
      .wakeSet 5 3 6 50, .wakeSet 6 30 5 10, .wakeSet 7 27 7 45] idle
    s.wake.entries.map (fun e => (e.berth.val + 1, e.due)) = [(14, 1640), (3, 1650), (30, 1650), (27, 1655)] ∧
      (after (.stopSet 8 5 1675 21) s).wake.entries.map (fun e => (e.berth.val + 1, e.due)) =
        [(3, 1650), (14, 1655), (27, 1655), (30, 1665)] := by decide

/-- R109: EMERGENCY_CLEAR with the latch clear. -/
theorem test_emergency_clear : answer (after (.emergencyClear 1) idle) = some [Result.wrongState.code] := by decide

/-- R106 with the filter at 1: one asserted sample sets the latch. -/
theorem test_alarm :
    (run [.settingSet 1 17 1, .laneFrameStart .asserted] idle).emergency =
      { candidate := .asserted, runCount := 1, accepted := .asserted, latch := true, clearPending := false } := by
  decide +kernel

/-- Section 6.6: the 19th sample of a run is not accepted, the 20th is. -/
theorem test_alarm_accepted :
    let s := fun n : Nat => ({ idle with emergency := { candidate := .asserted, runCount := n } } : State)
    (after .alarmAccepted (s 18)).emergency = (s 18).emergency ∧
      (after .alarmAccepted (s 19)).emergency =
        { candidate := .asserted, runCount := 20, accepted := .asserted, latch := true, clearPending := false } := by
  decide

/-- R20: while the latch is set a berth reports path EMERGENCY and not covered. -/
theorem test_latched_status :
    let s := fun latch : Bool => ({ idle with
      emergency := { latch := latch }
      voice := { coverage := some { id := 9, cls := .stop, berths := 1, card := none } } } : State)
    ((answer (after (.berthStatus 1 1) (s true))).getD []).drop 15 = [1, 0, 0, 0, 4, 0, 0] ∧
      ((answer (after (.berthStatus 1 1) (s false))).getD []).drop 15 = [0, 0, 1, 9, 4, 0, 0] := by decide

/-- R68: power-on reset does not clear the sample positions of the blocks it frees. -/
theorem test_power_on_keeps_samples :
    (after .powerOnReset { idle with clips := { mem := [(2, 0x80)] } }).clips.mem = [(2, 0x80)] := by decide

/-- R151 and R148: a disabled lane, and PORT refused without a strobe. -/
theorem test_lane_set :
    (after (.laneSet 1 2 0) idle).lanes[1].state = .disabled ∧
      answer (after (.referenceSet 1 1) idle) = some [Result.noReference.code] := by decide

/-- R163: a lane test of berths none of which is PRESENT is refused. -/
theorem test_lane_test : answer (after (.laneTestStart 1 1) idle) = some [Result.wrongState.code] := by decide

/-- R153: a trailer that echoes the frame number less 2. -/
theorem test_trailer :
    (after (.trailerArrival 0 0xFFFE (crc16 [0xFF, 0xFE])) idle).lanes[0].trailerGood = true ∧
      (after (.trailerArrival 0 0xFFFF (crc16 [0xFF, 0xFF])) idle).lanes[0].trailerGood = false := by decide +kernel

/-- R178: a discarded frame is counted once. -/
theorem test_bad_frame :
    (run [.syncByte, .interByteGap] idle).counters.live[142] = 1 ∧
      (run [.syncByte, .lengthAbove1000 0x03 0xE9] idle).counters.live[142] = 1 := by decide

/-- R173: the snapshot of BAD_FRAMES by its group and index. -/
theorem test_counters :
    answer (run [.syncByte, .interByteGap, .countersSnapshot 1, .countersRead 2 8 1 1] idle) =
      some [0, 0, 1, 8, 1, 1, 0, 1] := by decide

/-- R176 to R179: a frame on the line is the arrival of its request, here SETTING_GET of setting 12. -/
theorem test_frame_received :
    answer (after (.frameReceived (LinkFrame.bytes { kind := 0x04, serial := 9, payload := [12] })) idle) =
      some [0, 12, 0, 3] := by decide +kernel

/-! ## Witnesses: every clause of every statement is met by some state and operands

Each theorem states the hypotheses of the statement in its name, clause by clause, at values where a clause begins
or ends. -/

theorem ready {s : State} (h : s.link.buffer = []) : LinkReady s := ⟨by rw [h]; decide, by simp [h]⟩

theorem quiet {s : State} (h : s.link.buffer = []) : LinkQuiet s := .inr (by simp [h])

/-- An entry of the request buffer that has been answered. -/
def answeredEntry : BufferEntry :=
  { frame := { kind := 0x01, serial := 1, payload := [] }, state := .answered (okReply []) }

/-- A full request buffer. -/
def full : State := { idle with link := { buffer := List.replicate 8 answeredEntry } }

/-- A part whose receiver holds these bytes. -/
def holding (bytes : List Byte) : State := { idle with link := { held := bytes } }

/-- A part with this voice channel. -/
def voiced (v : Voice) : State := { idle with voice := v }

/-- A live record. -/
def live (id : Byte) (k : AnnClass) : Announcement :=
  { id := id, cls := k, origin := .mic .micA, berths := 1, repeats := 1, card := none }

/-- A record of clip 1. -/
def played (id : Byte) (k : AnnClass) : Announcement :=
  { id := id, cls := k, origin := .clip 0, berths := 1, repeats := 2, card := none }

/-- A clip store whose variant 0 of clip 1 holds one sample, in a pool of four blocks. -/
def oneClip : Clips :=
  { (({} : Clips).setVariant 0 0 { state := .ready, declared := 1, chain := [0], written := 1 }) with free := [1, 2, 3] }

/-- A clip store whose variant 0 of clip 1 takes samples. -/
def loadingClip : Clips :=
  { (({} : Clips).setVariant 0 0 { state := .loading, declared := 480, chain := [0], written := 0 }) with free := [] }

theorem witness_StepRunsFrontCommand :
    ({ idle with pending := [.take 1] } : State).pending = .take 1 :: [] ∧ idle.pending = [] := ⟨rfl, rfl⟩

theorem witness_RestartResets :
    LinkReady idle ∧ sendingRestart idle.link = false ∧ sendingRestart (after (.restart 3) idle).link = true :=
  ⟨ready rfl, by decide, by decide⟩

/-- A request without a payload. -/
def request (kind : Byte) : LinkFrame := { kind := kind, serial := 2, payload := [] }

/-- A part with an answered request and one that waits. -/
def two (kind : Byte) : State :=
  { idle with link := { buffer := [answeredEntry, { frame := request kind, state := .waiting }] } }

theorem witness_RequestsAreBufferedAndChecked :
    full.link.buffer.length = 8 ∧ LinkQuiet full ∧
    (after (.take 1) idle).link.buffer.length < 8 ∧ handOverHeld (after (.take 1) idle).link.buffer = true ∧
    (∀ n : Byte, Brings full (.take n) { kind := 0x11, serial := n, payload := [] }) ∧
    Brings idle (.frameReceived (request 0x07).bytes) (request 0x07) ∧
    Brings idle (.curveSet 1 []) { kind := 0x05, serial := 1, payload := [] } ∧
    Brings idle (.clipData 1 0 0 0 1 []) { kind := 0x29, serial := 1, payload := [0, 0, 0, 0, 0, 0, 0, 1] } ∧
    Brings idle (.unknownRequest 0x29 1 (List.replicate 7 0)) { kind := 0x29, serial := 1, payload := List.replicate 7 0 } ∧
    LinkReady idle ∧ (0x00 : Byte) ∉ assignedKinds ∧ (0x07 : Byte) ∉ assignedKinds ∧ (0x4A : Byte) ∉ assignedKinds ∧
    (List.replicate 15 (0 : BitVec 16)).length ≠ 16 ∧ (List.replicate 17 (0 : BitVec 16)).length ≠ 16 ∧
    ([] : List Sample).length ≠ (1 : BitVec 16).toNat ∧ ([0, 0] : List Sample).length ≠ (1 : BitVec 16).toNat ∧
    (two 0x11).link.buffer = [answeredEntry] ++ { frame := request 0x11, state := .waiting } :: [] ∧
    (∀ e ∈ [answeredEntry], e.state ≠ .waiting) ∧ handOverHeld (two 0x11).link.buffer = false ∧
    handle (request 0x11) (two 0x11) = (two 0x11, .held) ∧
    handle (request 0x00) (two 0x00) = (two 0x00, .reply (refuse .unknownRequest)) ∧
    handOverHeld (two 0x00).link.buffer = false :=
  ⟨rfl, .inr (by decide), by decide, by decide, fun _ => .inl rfl, .inr ⟨rfl, rfl, by decide⟩, .inl rfl, .inl rfl,
    .inl rfl, ready rfl, by decide, by decide, by decide, by decide, by decide, by decide, by decide, rfl, by decide,
    by decide, rfl, rfl, by decide⟩

theorem witness_ReceiverTakesAndDiscards :
    let f : LinkFrame := { kind := 1, serial := 0, payload := [] }
    idle.link.held = [] ∧ (List.replicate 1000 (0 : Byte)).length ≤ 1000 ∧ LinkQuiet idle ∧
    (0xA7 : Byte) ∉ ([1, 2] : List Byte) ∧
    crc16 f.covered ≠ 0 ∧ (0xA7 : Byte) ∉ f.covered ++ be16 0 ∧
    LinkQuiet (holding [0xA7]) ∧ (holding [0xA7]).link.held = 0xA7 :: [] ∧
    1000 < (0x03 : Byte).toNat * 256 + (0xE9 : Byte).toNat ∧ (0xA7 : Byte) ∉ ([] : List Byte) ∧
    LinkQuiet (holding [0xA7, 1, 0xA7, 0x03, 0xE8, 1]) ∧
    (holding [0xA7, 1, 0xA7, 0x03, 0xE8, 1]).link.held = 0xA7 :: ([1] ++ 0xA7 :: [0x03, 0xE8, 1]) ∧
    (0xA7 : Byte) ∉ ([1] : List Byte) ∧ ([0x03, 0xE8, 1] : List Byte).length < 4 ∧
    (∀ high low rest, ([0x03, 0xE8, 1] : List Byte) = high :: low :: rest → high.toNat * 256 + low.toNat ≤ 1000) :=
  ⟨rfl, by decide +kernel, quiet rfl, by decide, by decide +kernel, by decide, quiet rfl, rfl, by decide, by decide,
    quiet rfl, rfl, by decide, by decide, by rintro _ _ _ ⟨⟩; decide⟩

theorem witness_TransmitterSendsRepliesFirst :
    let waiting : BufferEntry := { frame := { kind := 1, serial := 2, payload := [] }, state := .waiting }
    let l : Link := { buffer := waiting :: [answeredEntry] }
    let n : Link := { buffer := [waiting], notices := [.referenceLost] }
    let replying : State := { idle with link :=
      { buffer := [answeredEntry], sending := some (.reply { kind := 0x81, serial := 1, payload := [0] }) } }
    LinkQuiet idle ∧ idle.link.sending = none ∧
    LinkQuiet { State.reset with pending := [] } ∧ State.reset.link.sending = some (.notice (.ready .powerOn)) ∧
    LinkQuiet replying ∧ replying.link.sending = some (.reply { kind := 0x81, serial := 1, payload := [0] }) ∧
    sendingRestart replying.link = false ∧
    l.sending = none ∧ l.buffer = [waiting] ++ { frame := answeredEntry.frame, state := .answered (okReply []) } :: [] ∧
    (∀ e ∈ [waiting], e.state = .waiting ∨ e.state = .inHand) ∧
    n.sending = none ∧ (∀ e ∈ n.buffer, e.state = .waiting ∨ e.state = .inHand) ∧ n.notices = .referenceLost :: [] ∧
    ({} : Link).notices = [] ∧ State.reset.link.sending ≠ none :=
  ⟨quiet rfl, rfl, quiet rfl, rfl, .inr (by decide), rfl, by decide, rfl, rfl, by decide, rfl, by decide, rfl, rfl,
    by decide⟩

theorem witness_StatusReports : LinkReady idle := ready rfl

theorem witness_SettingGetReports :
    LinkReady idle ∧ (0 : Byte).toNat < 1 ∧ 17 < (18 : Byte).toNat ∧ (1 : Byte).toNat = (0 : Fin 17).val + 1 ∧
    (17 : Byte).toNat = (16 : Fin 17).val + 1 := ⟨ready rfl, by decide⟩

theorem witness_SettingSetClampsAndActs :
    LinkReady idle ∧ (0 : Byte).toNat < 1 ∧ 17 < (18 : Byte).toNat ∧ (1 : Byte).toNat = (0 : Fin 17).val + 1 ∧
    (2 : Byte).toNat = (1 : Fin 17).val + 1 ∧ (3 : Byte).toNat = (2 : Fin 17).val + 1 ∧
    (12 : Byte).toNat = (11 : Fin 17).val + 1 ∧ (16 : Byte).toNat = (15 : Fin 17).val + 1 ∧
    (17 : Byte).toNat = (16 : Fin 17).val + 1 ∧ (16 : Fin 17) ≠ 0 ∧ (16 : Fin 17) ≠ 1 ∧ (16 : Fin 17) ≠ 11 ∧
    (16 : Fin 17) ≠ 15 := ⟨ready rfl, by decide⟩

/-- The operands that ROUTE_SET turns away. -/
abbrev routeBad (set : BerthSet) (p l c card cap sp now : Byte) : Prop :=
  set = 0 ∨ 6 < p.toNat ∨ 3 < l.toNat ∨ 2 < c.toNat ∨ 253 < card.toNat ∨ 15 < cap.toNat ∨ 1 < sp.toNat ∨ 1 < now.toNat

/-- The first clause fails in one field at a time; the second holds with every field at its greatest value. -/
theorem witness_RouteSetStages :
    LinkReady idle ∧ routeBad 0 0 0 0 0 0 0 0 ∧ routeBad 1 7 0 0 0 0 0 0 ∧ routeBad 1 0 4 0 0 0 0 0 ∧ routeBad 1 0 0 3 0 0 0 0 ∧
    routeBad 1 0 0 0 254 0 0 0 ∧ routeBad 1 0 0 0 0 16 0 0 ∧ routeBad 1 0 0 0 0 0 2 0 ∧ routeBad 1 0 0 0 0 0 0 2 ∧
    ¬ routeBad 0x8000000000 6 3 2 253 15 1 1 ∧ ¬ routeBad 1 0 0 0 0 0 0 0 := ⟨ready rfl, by decide, by decide, by decide, by decide, by decide, by decide, by decide, by decide, by decide, by decide⟩

/-- A TAKE in hand behind an answered entry, with one that waits behind it; a part with nothing to hand over. -/
theorem witness_TakeWaitsForFrameStart :
    let taking : State := after (.status 7) (after (.take 5) { idle with link := { buffer := [answeredEntry] } })
    LinkReady idle ∧ (∃ e ∈ taking.link.buffer, e.state = .inHand) ∧ (∃ e ∈ taking.link.buffer, e.state = .waiting) ∧
    ¬ (∃ e ∈ idle.link.buffer, e.state = .inHand) ∧
    (∀ e ∈ (frameBegun .released false (after (.take 5) idle)).link.buffer, e.state ≠ .waiting) :=
  ⟨ready rfl, by decide, by decide, by decide, by decide +kernel⟩

/-- One berth of each line of R10, from the latch to HOLD. -/
theorem witness_FrameStartDerivesVideo :
    let route := fun r : RouteRecord => ({ idle with routes := (Vector.replicate 40 {}).set 0 { active := r } } : State)
    let shown := fun s : State => ((frameBegun .released false s).routes[0].mode,
      (frameBegun .released false s).routes[0].card)
    let retuned : State := after (.take 5) (route { programme := some 0 })
    let running := fun e : Bool => ({ route { programme := some 0 } with
      programmes := (Vector.replicate 6 {}).set 0
        { state := .running, interval := some 0, receivingCells := [{ entry := e, data := [] }] } } : State)
    ((∃ e ∈ retuned.link.buffer, e.state = .inHand) ∧
      retuned.routes[0].staged.programme ≠ retuned.routes[0].active.programme) ∧
    shown { idle with emergency := { latch := true } } = (.card, 255) ∧
    shown (route { card := some 253 }) = (.card, 253) ∧ shown (route {}) = (.card, 0) ∧
    shown (route { programme := some 5 }) = (.card, 254) ∧ shown (running true) = (.pass, 0) ∧
    shown (running false) = (.hold, 0) := by
  refine ⟨by decide, ?_⟩; decide +kernel

theorem witness_BerthReportsAnswer :
    LinkReady idle ∧ (0 : Byte).toNat < 1 ∧ 40 < (41 : Byte).toNat ∧ (1 : Byte).toNat = (0 : Berth).val + 1 ∧
    (40 : Byte).toNat = (39 : Berth).val + 1 := ⟨ready rfl, by decide⟩

/-- A programme that plays a block of one track. -/
def playing (c : Conditioning) (guard : Nat) : State :=
  { idle with
    routes := (Vector.replicate 40 {}).set 0 { active := { programme := some 0, conditioning := c }, guard := guard }
    programmes := (Vector.replicate 6 {}).set 0
      { state := .running, interval := some 0, forwardingAudio := some { tracks := [List.replicate 48 (5, 6)] } } }

theorem witness_ProgrammeSampleIsChosen :
    idle.routes[0].active.programme = none ∧ 0 < (playing .pass 1).routes[0].guard ∧
    (playing .silence 0).routes[0].active.conditioning = .silence ∧
    (playing .pass 0).routes[0].active.programme = some 0 ∧
    idle.programmes[0].state ≠ .running ∧ idle.programmes[0].usable = none ∧
    (playing .pass 0).programmes[0].state = .running ∧
    (playing .pass 0).programmes[0].usable = some { tracks := [List.replicate 48 (5, 6)] } ∧
    (playing .pass 0).routes[0].guard = 0 ∧ (playing .pass 0).routes[0].active.conditioning = .pass ∧
    (playing .tone 0).routes[0].active.conditioning = .tone := by decide

/-- A RUNNING programme at the last count below the stall limit, and one at the limit. -/
theorem witness_FrameStartMovesProgrammes :
    let near := fun n : Nat => setProgramme 0 (fun r => { r with state := .running, interval := some n }) idle
    (near 1999).programmes[0].state = .running ∧ snapshotDue (near 1999) = false ∧
    (near 1999).settings.stallLimit ≤ (near 1999).programmes[0].interval.getD 0 + 1 ∧
    ¬ (near 1998).settings.stallLimit ≤ (near 1998).programmes[0].interval.getD 0 + 1 := by decide

theorem witness_CellArrivalIsTaken :
    let r := setProgramme 5 (fun r => { r with state := .running, interval := some 4999 }) begunIdle
    LinkQuiet idle ∧ LinkQuiet r ∧ (0 : Byte).toNat < 1 ∧ 6 < (7 : Byte).toNat ∧ idle.mixer.frameOpen = false ∧
    r.mixer.frameOpen = true ∧
    (6 : Byte).toNat = (5 : ProgrammeNo).val + 1 ∧ r.programmes[5].state = .running ∧
    r.programmes[5].interval = some 4999 ∧ begunIdle.programmes[5].state ≠ .running :=
  ⟨quiet rfl, quiet rfl, by decide⟩

theorem witness_AudioInputsAreCollected :
    let block : List (List (Sample × Sample)) := List.replicate 4 (List.replicate 48 (0, 0))
    LinkQuiet idle ∧ idle.mixer.frameOpen = false ∧ LinkQuiet begunIdle ∧ begunIdle.mixer.frameOpen = true ∧
    (6 : Byte).toNat = (5 : ProgrammeNo).val + 1 ∧ 1 ≤ (4 : Byte).toNat ∧ (4 : Byte).toNat ≤ 4 ∧
    block.length = (4 : Byte).toNat ∧ (∀ x ∈ block, x.length = 48) ∧ begunIdle.programmes[5].receivingAudio = none ∧
    (0 : Byte).toNat < 1 ∧ 4 < (5 : Byte).toNat ∧ block.length ≠ (3 : Byte).toNat ∧
    (∃ x ∈ [List.replicate 47 ((0 : Sample), (0 : Sample))], x.length ≠ 48) ∧
    (setProgramme 5 (fun r => { r with receivingAudio := some { tracks := block } }) begunIdle).programmes[5].receivingAudio
      ≠ none ∧ 6 < (7 : Byte).toNat :=
  ⟨quiet rfl, rfl, quiet rfl, by decide⟩

/-- A wake entry of berth 1 for stop 1. -/
def booking (state : WakeEntryState) : WakeEntry := { berth := 0, stop := 0, lead := 5, due := 55, state := state }

/-- A part with that entry and with stop 1 AHEAD. -/
def booked (state : WakeEntryState) (name : Option ClipNo) : State :=
  { idle with
    wake := { stops := (Vector.replicate 24 {}).set 0 { state := .ahead, eta := 60, nameClip := name }
              entries := [booking state] }
    clips := oneClip }

theorem witness_ReachedCountsAct :
    let r := setProgramme 0 (fun r => { r with state := .running, interval := some 0 }) idle
    LinkQuiet r ∧ r.programmes[0].state = .running ∧ r.programmes[1].state ≠ .running ∧
    idle.mixer.berths[0].runningPeak = 0 ∧ 2 ^ 14 ≤ 32767 ∧ 32767 < 2 ^ (14 + 1) ∧ 2 ^ 0 ≤ 1 ∧ 1 < 2 ^ (0 + 1) ∧
    LinkQuiet (booked .ringing none) ∧
    (booked .ringing none).wake.entries.find? (fun x => x.berth == 0) = some (booking .ringing) ∧
    (booking .ringing).state = .ringing ∧
    (∀ e, (booked .armed none).wake.entries.find? (fun x => x.berth == 0) = some e → e.state ≠ .ringing) ∧
    (booked .ringing none).wake.entries.find? (fun x => x.berth == 1) = none :=
  ⟨quiet rfl, by decide, by decide, by decide, by decide, by decide, by decide, by decide, quiet rfl, rfl, rfl,
    by rintro _ ⟨⟩; decide, rfl⟩

theorem witness_ProgrammeRequestsAnswer :
    LinkReady idle ∧ (0 : Byte).toNat < 1 ∧ 6 < (7 : Byte).toNat ∧ 4 < (5 : Byte).toNat ∧
    (1 : Byte).toNat = (0 : ProgrammeNo).val + 1 ∧ (6 : Byte).toNat = (5 : ProgrammeNo).val + 1 ∧
    1 ≤ (1 : Byte).toNat ∧ (4 : Byte).toNat ≤ 4 := ⟨ready rfl, by decide⟩

/-- The operands that ANNOUNCE turns away. -/
abbrev announceBad (id cls origin clip : Byte) (set : BerthSet) (card : Byte) : Prop :=
  id.toNat < 1 ∨ 239 < id.toNat ∨ cls.toNat < 1 ∨ 4 < cls.toNat ∨ 2 < origin.toNat ∨
    (origin = 0 ∧ (clip.toNat < 1 ∨ 64 < clip.toNat)) ∨ 253 < card.toNat ∨ set = 0

theorem witness_AnnouncePlacesRecord :
    let active := fun k => voiced { active := some (live 1 k) }
    let deep := voiced { active := some (live 3 .crew), stack := [live 2 .service, live 1 .stop] }
    (∀ k, LinkReady (active k)) ∧ LinkReady deep ∧
    [live 4 .crew, live 5 .crew, live 6 .stop].Pairwise (fun x y => y.cls.rank ≤ x.cls.rank) ∧
    announceBad 0 1 1 0 1 0 ∧ announceBad 240 1 1 0 1 0 ∧ announceBad 1 0 1 0 1 0 ∧ announceBad 1 5 1 0 1 0 ∧ announceBad 1 1 3 0 1 0 ∧ announceBad 1 1 0 0 1 0 ∧
      announceBad 1 1 0 65 1 0 ∧ announceBad 1 1 1 0 1 254 ∧ announceBad 1 1 1 0 0 0 ∧ ¬ announceBad 239 4 2 0 1 253 ∧ ¬ announceBad 1 1 0 64 1 0 ∧
    (∃ r ∈ (active .stop).voice.records, r.id = 1) ∧ (∀ r ∈ (active .stop).voice.records, r.id ≠ 2) ∧
    (64 : Byte).toNat = (63 : ClipNo).val + 1 ∧ (idle.clips.variant 63 0).state ≠ .ready ∧
    (4 : Byte) = u8 AnnClass.safety.rank ∧ (0 : Byte) = (Origin.clip 0).code ∧ (1 : Byte) = (Origin.mic .micA).code ∧
    (1 : Byte).toNat = (0 : ClipNo).val + 1 ∧ (oneClip.variant 0 0).state = .ready ∧
    idle.emergency.latch = false ∧ idle.voice.active = none ∧
    (active .crew).voice.active = some (live 1 .crew) ∧
    (live 1 .crew).cls.rank < AnnClass.safety.rank ∧ (active .crew).voice.stack.length < (active .crew).settings.depthLimit ∧
    AnnClass.crew.rank ≤ (live 1 .crew).cls.rank ∧
    ({ deep with settings := { deep.settings with depthLimit := 2 } } : State).settings.depthLimit ≤ deep.voice.stack.length ∧
    ({ idle with emergency := { latch := true } } : State).emergency.latch = true := by
  refine ⟨fun _ => ready rfl, ready rfl, by decide, by decide, by decide, by decide, by decide, by decide, by decide, by decide, by decide, by decide, by decide, by decide, ?_⟩; decide

theorem witness_AnnouncementRequestsAnswer :
    let s := voiced { active := some (live 3 .crew), stack := [live 2 .service, live 1 .stop], waiting := [live 4 .stop] }
    let gone := voiced { active := some { live 3 .crew with withdrawn := true } }
    let clip := voiced { active := some (played 3 .crew) }
    let gap := voiced { active := some { played 3 .crew with phase := .gap } }
    LinkReady s ∧ LinkReady gone ∧ LinkReady clip ∧ LinkReady gap ∧
    (∀ r ∈ s.voice.records, r.id ≠ 9) ∧
    (∀ a, s.voice.active = some a → a.id ≠ 1) ∧ (∃ r ∈ s.voice.records, r.id = 1) ∧
    s.voice.active = some (live 3 .crew) ∧ (live 3 .crew).withdrawn = false ∧
    gone.voice.active = some { live 3 .crew with withdrawn := true } ∧
    (played 3 .crew).origin = .clip 0 ∧ (played 3 .crew).phase = .playing ∧ (live 3 .crew).origin = .mic .micA ∧
    ({ played 3 .crew with phase := .gap } : Announcement).phase = .gap ∧
    s.voice.stack = [live 2 .service] ++ live 1 .stop :: [] ∧ (∀ x ∈ [live 2 .service] ++ [], x.id ≠ 1) ∧
    (∀ a, s.voice.active = some a → a.id ≠ 4) ∧ (∀ x ∈ s.voice.stack, x.id ≠ 4) ∧
    s.voice.waiting = [] ++ live 4 .stop :: [] ∧ (∀ x ∈ ([] : List Announcement) ++ [], x.id ≠ 4) :=
  ⟨ready rfl, ready rfl, ready rfl, ready rfl, by decide, by rintro _ ⟨⟩; decide, by decide, rfl, rfl, rfl, rfl, rfl,
    rfl, rfl, rfl, by decide, by rintro _ ⟨⟩; decide, by decide, rfl, by decide⟩

theorem witness_ProgressEventsAct :
    let clip := voiced { active := some (played 3 .crew) }
    let last := { played 3 .crew with currentRepeat := 2 }
    LinkQuiet idle ∧ idle.voice.active = none ∧ (voiced { frozenFrame := true }).voice.frozenFrame = true ∧
    ({ played 3 .crew with awaitingStart := true } : Announcement).awaitingStart = true ∧
    LinkQuiet clip ∧ clip.voice.active = some (played 3 .crew) ∧ (played 3 .crew).awaitingStart = false ∧
    clip.voice.frozenFrame = false ∧ (played 3 .crew).origin = .clip 0 ∧ (played 3 .crew).phase = .playing ∧
    last.repeats ≤ last.currentRepeat ∧ (played 3 .crew).currentRepeat < (played 3 .crew).repeats ∧
    0 < clip.settings.repeatGap ∧
    ({ clip with settings := { clip.settings with repeatGap := 0 } } : State).settings.repeatGap = 0 ∧
    ({ played 3 .crew with phase := .gap } : Announcement).phase = .gap ∧ (live 3 .crew).origin = .mic .micA ∧
    ({ played 3 .crew with withdrawn := true } : Announcement).withdrawn = true ∧
    ({ live 3 .crew with endDue := true } : Announcement).endDue = true ∧
    ¬ ((live 3 .crew).withdrawn = true ∨ (live 3 .crew).endDue = true) :=
  ⟨quiet rfl, rfl, rfl, rfl, quiet rfl, by decide⟩

theorem witness_ReselectionFillsChannel :
    let head := voiced { waiting := [live 4 .crew], stack := [live 2 .service] }
    let top := voiced { waiting := [live 4 .service], stack := [live 2 .service] }
    idle.voice.active = none ∧ idle.voice.waiting = [] ∧ idle.voice.stack = [] ∧
    head.voice.active = none ∧ head.voice.waiting = live 4 .crew :: [] ∧
    (∀ t below, head.voice.stack = t :: below → t.cls.rank < (live 4 .crew).cls.rank) ∧
    top.voice.active = none ∧ top.voice.stack = live 2 .service :: [] ∧
    (∀ h rest, top.voice.waiting = h :: rest → h.cls.rank ≤ (live 2 .service).cls.rank) ∧
    ({ live 2 .service with withdrawn := true } : Announcement).withdrawn = true ∧
    ({ live 2 .service with endDue := true } : Announcement).endDue = true ∧ (live 2 .service).withdrawn = false ∧
    (live 2 .service).endDue = false ∧
    (live 2 .service).cls.rank < (live 4 .crew).cls.rank ∧ (voiced {}).voice.stack.length < (voiced {}).settings.depthLimit ∧
    (live 4 .service).cls.rank ≤ (live 2 .service).cls.rank ∧
    ({ head with settings := { head.settings with depthLimit := 1 } } : State).settings.depthLimit ≤
      head.voice.stack.length :=
  ⟨rfl, rfl, rfl, rfl, rfl, by rintro _ _ ⟨⟩; decide, rfl, rfl, by rintro _ _ ⟨⟩; decide, rfl, rfl, rfl, rfl,
    by decide, by decide, by decide, by decide⟩

/-- A record that awaits its start starts; one that is frozen stays; and, of a record that plays, the counts on either
side of each account. -/
theorem witness_FrameStartRunsVoice :
    let waits := voiced { active := some { live 3 .crew with awaitingStart := true } }
    let frozen : State := { voiced { active := some (live 3 .crew), frozenFrame := true } with
      emergency := { accepted := .asserted, candidate := .asserted, latch := true } }
    let r := played 3 .crew
    let readers : List Reader := [{ clip := 0, variant := 0, samples := 25, position := 0 }]
    (frameBegun .released false waits).emergency.latch = false ∧
    (coveredBy (frameBegun .released false waits).voice 0).isSome = true ∧
    (frameBegun .asserted false frozen).emergency.latch = true ∧
    frozen.voice.frozenFrame = true ∧ frozen.voice.active = some (live 3 .crew) ∧ (live 3 .crew).withdrawn = false ∧
    (live 3 .crew).endDue = false ∧
    repeatLength readers = 2 ∧ r.framesPlayed + 1 < repeatLength readers ∧
    repeatLength readers ≤ ({ r with framesPlayed := 1 } : Announcement).framesPlayed + 1 ∧
    r.currentRepeat < r.repeats ∧ 0 < idle.settings.repeatGap ∧ r.origin = .clip 0 ∧ r.phase = .playing ∧
    1 < ({ r with gapLeft := 2 } : Announcement).gapLeft ∧ ({ r with gapLeft := 1 } : Announcement).gapLeft ≤ 1 ∧
    (live 3 .crew).liveSeconds + 1 < idle.settings.liveLimit ∧
    idle.settings.liveLimit ≤ ({ live 3 .crew with liveSeconds := 119 } : Announcement).liveSeconds + 1 ∧
    (∀ x ∈ readers, x.samples ≤ 24 * 2) := by decide +kernel

theorem witness_ClipOpenAllocates :
    LinkReady idle ∧ (0 : Byte).toNat < 1 ∧ 64 < (65 : Byte).toNat ∧ 3 < (4 : Byte).toNat ∧
    (0 : BitVec 32).toNat < 1 ∧ 1048576 < (1048577 : BitVec 32).toNat ∧ (1048576 : BitVec 32).toNat ≤ 1048576 ∧
    (64 : Byte).toNat = (63 : ClipNo).val + 1 ∧ (3 : Byte).toNat = (3 : Fin 4).val ∧ 1 ≤ (1 : BitVec 32).toNat ∧
    (oneClip.variant 0 0).state ≠ .empty ∧ (oneClip.variant 0 1).state = .empty ∧
    oneClip.free.length < ((6145 : BitVec 32).toNat + 2047) / 2048 ∧
    ((6144 : BitVec 32).toNat + 2047) / 2048 ≤ oneClip.free.length := ⟨ready rfl, by decide⟩

theorem witness_ClipDataStores :
    let x := loadingClip.variant 0 0
    LinkReady { idle with clips := loadingClip } ∧ (List.replicate 480 (0 : Sample)).length = (480 : BitVec 16).toNat ∧
    (0 : Byte).toNat < 1 ∧ 64 < (65 : Byte).toNat ∧ 3 < (4 : Byte).toNat ∧ (0 : BitVec 16).toNat < 1 ∧
    480 < (481 : BitVec 16).toNat ∧ (1 : Byte).toNat = (0 : ClipNo).val + 1 ∧ (0 : Byte).toNat = (0 : Fin 4).val ∧
    1 ≤ (1 : BitVec 16).toNat ∧ (480 : BitVec 16).toNat ≤ 480 ∧ (oneClip.variant 0 0).state ≠ .loading ∧
    x.state = .loading ∧ (1 : BitVec 32).toNat ≠ x.written ∧ (0 : BitVec 32).toNat = x.written ∧
    ({ x with declared := 479 } : Variant).declared < x.written + (480 : BitVec 16).toNat ∧
    x.written + (480 : BitVec 16).toNat ≤ x.declared ∧ Memory.wf loadingClip.mem = true ∧ x.chain.Nodup ∧
    x.declared ≤ 2048 * x.chain.length := ⟨ready rfl, by decide +kernel⟩

theorem witness_ClipAbortFrees :
    LinkReady { idle with clips := loadingClip } ∧ (0 : Byte).toNat < 1 ∧ 64 < (65 : Byte).toNat ∧
    3 < (4 : Byte).toNat ∧ (1 : Byte).toNat = (0 : ClipNo).val + 1 ∧ (0 : Byte).toNat = (0 : Fin 4).val ∧
    (loadingClip.variant 0 0).state = .loading ∧ (loadingClip.variant 0 1).state ≠ .loading ∧
    (oneClip.variant 0 0).state ≠ .loading := ⟨ready rfl, by decide⟩

theorem witness_ClipDeleteAndInfo :
    let s : State := { voiced { active := some (played 3 .crew) } with clips := oneClip }
    LinkReady s ∧ (0 : Byte).toNat < 1 ∧ 64 < (65 : Byte).toNat ∧ (1 : Byte).toNat = (0 : ClipNo).val + 1 ∧
    (∃ r ∈ s.voice.records, r.origin = .clip 0) ∧ (64 : Byte).toNat = (63 : ClipNo).val + 1 ∧
    (∀ r ∈ s.voice.records, r.origin ≠ .clip 63) := ⟨ready rfl, by decide⟩

/-- The first and the last pair of a reader of two samples, and what follows them. -/
theorem witness_ReaderInterpolates :
    let r : Reader := { clip := 0, variant := 0, samples := 2, position := 0 }
    0 < r.samples ∧ 0 + 1 < r.samples ∧ 1 + 1 = r.samples ∧ 2 * r.samples ≤ 4 := by decide

/-- A peak period's last frame and the one before it, and a clamped sample in the frame just ended. -/
def metered (frames : Nat) : State :=
  { idle with mixer := { idle.mixer with
      frameOpen := true, periodFrames := frames
      berths := idle.mixer.berths.set 0 { idle.mixer.berths[0] with saturated := true, runningPeak := 32767 } } }

theorem witness_GainsFollowCurve :
    let waits := voiced { active := some { live 3 .crew with awaitingStart := true } }
    let t := frameBegun .released false waits
    LinkReady idle ∧ (List.replicate 16 (0xFFFF : BitVec 16)).length = 16 ∧ idle.mixer.frameOpen = false ∧
    (coveredBy t.voice 0).map Coverage.cls = some .crew ∧ coveredBy t.voice 1 = none ∧
    (t.berths[0].headphone.accepted = false ∧ t.clock.night = false ∧ t.routes[0].active.speaker = true) ∧
    ((metered 999).mixer.frameOpen = true ∧ 1000 ≤ (metered 999).mixer.periodFrames + 1) ∧
    (metered 998).mixer.periodFrames + 1 < 1000 ∧ (metered 999).mixer.berths[0].saturated = true ∧
    snapshotDue (metered 999) = false ∧ (metered 999).mixer.berths[1].runningPeak = 0 ∧
    2 ^ 14 ≤ (metered 999).mixer.berths[0].runningPeak ∧ (metered 999).mixer.berths[0].runningPeak < 2 ^ (14 + 1) :=
  ⟨ready rfl, by decide, rfl, by decide +kernel⟩

theorem witness_MixIsRoundedAndClamped :
    let g := fun p : OutputPath => ({ path := p, step := 0, gp := 0, ga := 0, gsp := 0, gsa := 0 } : Gains)
    let v : Voice := { active := some (played 3 .crew), coverage := some { id := 3, cls := .crew, berths := 1, card := none }
                       readers := [{ clip := 0, variant := 0, samples := 1, position := 0 },
                                   { clip := 0, variant := 2, samples := 1, position := 0 }] }
    (g .normal).path = .normal ∧ (g .test).path = .test ∧ (g .emergency).path = .emergency ∧
    coveredBy v 1 = none ∧ coveredBy v 0 ≠ none ∧ v.active = some (played 3 .crew) ∧
    (live 3 .crew).origin = .mic .micA ∧ ({ live 3 .crew with origin := .mic .micB } : Announcement).origin = .mic .micB ∧
    (played 3 .crew).origin = .clip 0 ∧ (played 3 .crew).phase = .playing ∧
    ({ played 3 .crew with phase := .gap } : Announcement).phase = .gap ∧
    (∃ ahead behind rd, v.readers = ahead ++ rd :: behind ∧ rd.variant = 2 ∧ ∀ x ∈ ahead, x.variant ≠ 2) ∧
    (∀ x ∈ v.readers, x.variant ≠ 3) ∧
    (∀ x ∈ ({ v with readers := [] } : Voice).readers, x.variant ≠ 0) :=
  ⟨rfl, rfl, rfl, by decide, by decide, rfl, rfl, rfl, rfl, rfl, rfl, ⟨[_], [], _, rfl, rfl, by decide⟩, by decide, by decide⟩

theorem witness_EmergencyReachesEveryBerth :
    let s : State := { idle with emergency := { latch := true } }
    (frameBegun .released false s).emergency.latch = true := by decide +kernel

theorem witness_EmergencyLineActs :
    let s := fun e : Emergency => ({ idle with emergency := e } : State)
    (∀ e, LinkReady (s e) ∧ LinkQuiet (s e)) ∧ (s { accepted := .asserted, latch := true }).emergency.accepted = .asserted ∧
    (s {}).emergency.accepted = .released ∧ (s {}).emergency.latch = false ∧ (s { latch := true }).emergency.latch = true ∧
    (Line.asserted ≠ (s {}).emergency.accepted ∧ (s {}).settings.alarmFilter ≤ min (19 + 1) 100) ∧
    (s {}).emergency.candidate = (s {}).emergency.accepted ∧
    ¬ (s {}).settings.alarmFilter ≤ min (({ candidate := .asserted, runCount := 18 } : Emergency).runCount + 1) 100 ∧
    (s {}).settings.alarmFilter ≤ min (({ candidate := .asserted, runCount := 19 } : Emergency).runCount + 1) 100 ∧
    (s {}).settings.alarmFilter ≤ min (({ candidate := .asserted, runCount := 100 } : Emergency).runCount + 1) 100 ∧
    (s { candidate := .asserted, latch := true, clearPending := true }).emergency.clearPending = true ∧
    (s { candidate := .asserted, latch := true }).emergency.clearPending = false ∧
    (s { candidate := .released, accepted := .asserted, latch := true }).emergency.accepted = .asserted :=
  ⟨fun _ => ⟨ready rfl, quiet rfl⟩, by decide⟩

theorem witness_ClockRequestsAnswerAndNight :
    LinkReady idle ∧ 7 < (8 : Byte).toNat ∧ 23 < (24 : Byte).toNat ∧ 59 < (60 : Byte).toNat ∧
    (7 : Byte).toNat ≤ 7 ∧ (23 : Byte).toNat ≤ 23 ∧ (59 : Byte).toNat ≤ 59 ∧
    (60 < 300) ∧ (390 < 1320) ∧ (0 : Nat) ≤ 1439 ∧ (1439 : Nat) ≤ 1439 := ⟨ready rfl, by decide⟩

theorem witness_ClockTicks :
    let s := fun c : Clock => ({ idle with clock := c } : State)
    let last : Clock := { isSet := true, day := 7, hour := 23, minute := 59, second := 59 }
    let carry : Clock := { isSet := true, hour := 23, minute := 59, second := 59 }
    (∀ c, LinkQuiet (s c)) ∧ (s {}).clock.isSet = false ∧ (s last).clock.isSet = true ∧
    ({ last with held := true } : Clock).held = true ∧ last.held = false ∧ last.atLimit = true ∧
    carry.held = false ∧ carry.atLimit = false ∧ 60 ≤ carry.second + 1 ∧
    ¬ 60 ≤ ({ carry with second := 58 } : Clock).second + 1 ∧
    ({ carry with frameCount := 998 } : Clock).frameCount + 1 < 1000 ∧
    1000 ≤ ({ carry with frameCount := 999 } : Clock).frameCount + 1 :=
  ⟨fun _ => quiet rfl, by decide⟩

theorem witness_StopRequestsAct :
    LinkReady (booked .armed none) ∧ LinkReady (booked .acked none) ∧ (0 : Byte).toNat < 1 ∧ 24 < (25 : Byte).toNat ∧
    64 < (65 : Byte).toNat ∧ (1 : Byte).toNat = (0 : StopNo).val + 1 ∧ (24 : Byte).toNat = (23 : StopNo).val + 1 ∧
    clipField none = 0 ∧ clipField (some 63) = 64 ∧
    (after (.stopPassed 1 1) (booked .armed none)).wake.stops[0].state = .passed ∧
    (booked .armed none).wake.stops[0].state ≠ .passed ∧ (booked .armed none).wake.stops[0].state = .ahead ∧
    idle.wake.stops[0].state ≠ .ahead ∧
    (∃ e ∈ (booked .armed none).wake.entries, e.stop = 0 ∧ (e.state = .armed ∨ e.state = .ringing)) ∧
    (∀ e ∈ (booked .acked none).wake.entries, ¬ (e.stop = 0 ∧ (e.state = .armed ∨ e.state = .ringing))) ∧
    ((booked .armed none).wake.entries.map WakeEntry.berth).Nodup ∧
    (booked .armed none).wake.entries.Pairwise (fun x y => x.due < y.due ∨ (x.due = y.due ∧ x.berth < y.berth)) :=
  ⟨ready rfl, ready rfl, by decide⟩

theorem witness_WakeSetBooks :
    let set : State := { booked .armed none with clock := { isSet := true, minute := 55 } }
    LinkReady (booked .armed none) ∧ LinkReady set ∧ (0 : Byte).toNat < 1 ∧ 40 < (41 : Byte).toNat ∧
    24 < (25 : Byte).toNat ∧ (40 : Byte).toNat = (39 : Berth).val + 1 ∧ (1 : Byte).toNat = (0 : StopNo).val + 1 ∧
    idle.wake.stops[0].state ≠ .ahead ∧ (booked .armed none).wake.stops[0].state = .ahead ∧
    (set.clock.isSet = true ∧ set.wake.stops[0].eta - min 60 (max 5 (5 : Byte).toNat) ≤ set.clock.journeyMinute) ∧
    ¬ ((booked .armed none).clock.isSet = true ∧ 55 ≤ (booked .armed none).clock.journeyMinute) ∧
    set.wake.entries.Pairwise (fun x y => x.due < y.due ∨ (x.due = y.due ∧ x.berth < y.berth)) :=
  ⟨ready rfl, ready rfl, by decide⟩

theorem witness_WakeRequestsAnswer :
    LinkReady (booked .armed none) ∧ (0 : Byte).toNat < 1 ∧ 40 < (41 : Byte).toNat ∧
    (40 : Byte).toNat = (39 : Berth).val + 1 ∧ (∀ e ∈ (booked .armed none).wake.entries, e.berth ≠ 39) ∧
    (1 : Byte).toNat = (0 : Berth).val + 1 ∧ (∃ e ∈ (booked .armed none).wake.entries, e.berth = 0) :=
  ⟨ready rfl, by decide⟩

/-- A PRESENT berth whose entry rings. -/
def ringing (name : Option ClipNo) : State :=
  { booked .ringing name with
    lanes := (Vector.replicate 4 {}).set 0 { state := .up }
    berths := (Vector.replicate 40 {}).set 0
      { present := true, validRun := 3, call := { accepted := false, candidate := some true, run := 2 } } }

theorem witness_FrameStartJudgesChimes :
    (ringing none).clock.isSet = false ∧
    ({ ringing none with clock := { isSet := true, frameCount := 999 } } : State).clock.isSet = true ∧
    1000 ≤ ({ ringing none with clock := { isSet := true, frameCount := 999 } } : State).clock.frameCount + 1 ∧
    (ringing none).wake.entries.find? (fun x => x.berth == 0) = some (booking .ringing) ∧
    (∀ e ∈ (ringing none).wake.entries, e.berth ≠ 1) ∧
    chimeSample (frameBegun .released false (setEntries (fun es => es.map fun e => { e with deferred := true })
      (ringing none))).wake.entries 0 47 = -8192 := by decide +kernel

theorem witness_CallPressAcknowledges :
    let s := ringing (some 0)
    LinkQuiet s ∧ s.berths[0].present = true ∧ s.berths[0].call.candidate = some true ∧
    s.berths[0].call.accepted = false ∧
    (∀ e, ({ s with wake := {} } : State).wake.entries.find? (fun e => e.berth == 0) = some e → e.state ≠ .ringing) ∧
    s.wake.entries.find? (fun e => e.berth == 0) = some (booking .ringing) ∧ (booking .ringing).state = .ringing ∧
    (∀ c, (ringing none).wake.stops[(booking .ringing).stop].nameClip = some c →
      ((ringing none).clips.variant c 0).state ≠ .ready) ∧
    s.wake.stops[(booking .ringing).stop].nameClip = some 0 ∧ (s.clips.variant 0 0).state = .ready ∧
    (∀ i : Byte, 240 ≤ i.toNat → ∃ r ∈ (voiced
      { waiting := (List.range 16).map (fun k => live (u8 (240 + k)) .stop) }).voice.records, r.id = i) ∧
    240 ≤ (240 : Byte).toNat ∧ (∀ r ∈ s.voice.records, r.id ≠ 240) ∧
    (∀ j : Byte, 240 ≤ j.toNat → j.toNat < (240 : Byte).toNat → ∃ r ∈ s.voice.records, r.id = j) ∧
    s.emergency.latch = false ∧ s.voice.active = none ∧
    (voiced { active := some (live 1 .stop) }).voice.active ≠ none ∧ s.voice.waiting.length < 16 ∧
    16 ≤ ((List.range 16).map fun k => live (u8 (k + 1)) .stop).length :=
  ⟨quiet rfl, rfl, rfl, rfl, by rintro _ ⟨⟩, rfl, rfl, by rintro _ ⟨⟩, rfl, by decide, by decide +kernel, by decide,
    by decide, by intro j h1 h2; exact absurd h2 (by simp; omega), rfl, rfl, by decide, by decide, by decide⟩

theorem witness_FrameTimerRuns :
    let s := fun t : Timer => ({ idle with timer := t } : State)
    (∀ t, LinkQuiet (s t) ∧ LinkReady (s t)) ∧
    (s { reference := .port, strobeAge := 3 }).timer.reference = .port ∧ (s {}).timer.reference = .localOsc ∧
    1 < (2 : Byte).toNat ∧ 4 ≤ (s {}).timer.strobeAge ∧ (s { strobeAge := 3 }).timer.strobeAge < 4 ∧
    min ((s { reference := .port, strobeAge := 3 }).timer.strobeAge + 1) 4 = 4 ∧
    (s { requested := some .port }).timer.requested = some .port :=
  ⟨fun _ => ⟨quiet rfl, ready rfl⟩, by decide⟩

/-- A lane one good frame before UP, and one a bad frame before DOWN. -/
def training : Lane := { goodRun := 15, trailerGood := true }
def failing : Lane := { state := .up, badRun := 7 }

theorem witness_LanesChangeState :
    let s := fun x : LaneState => ({ idle with lanes := (Vector.replicate 4 {}).set 3 { state := x } } : State)
    (∀ x, LinkReady (s x) ∧ LinkQuiet (s x)) ∧ (0 : Byte).toNat < 1 ∧ 4 < (5 : Byte).toNat ∧ 1 < (2 : Byte).toNat ∧
    (4 : Byte).toNat = (3 : LaneNo).val + 1 ∧ (s .disabled).lanes[3].state = .disabled ∧
    (s .down).lanes[3].state = .down ∧ (s .up).lanes[3].state = .up ∧ (s .up).lanes[3].trailerReceived = false ∧
    ({ idle with lanes := (Vector.replicate 4 {}).set 3 { trailerReceived := true } } : State).lanes[3].trailerReceived
      = true ∧
    (training.state = .down ∧ training.trailerGood = true ∧ 16 ≤ training.goodRun + 1) ∧
    ({ training with goodRun := 14 } : Lane).goodRun + 1 < 16 ∧
    (failing.state = .up ∧ failing.trailerGood = false ∧ 8 ≤ failing.badRun + 1) ∧
    ({ failing with badRun := 6 } : Lane).badRun + 1 < 8 :=
  ⟨fun _ => ⟨ready rfl, quiet rfl⟩, by decide⟩

/-- A slot with the CRC of its other fields. -/
def sealed (x : UpSlot) : UpSlot := { x with crc := crc16 (be16 x.echo ++ [x.status] ++ (x.loopback.map be16).flatten) }

/-- A slot with a correct CRC that echoes frame 65534, two before frame 0. -/
def goodSlot : UpSlot := sealed { echo := 0xFFFE, status := 0x8F, loopback := List.replicate 48 0, crc := 0 }

/-- Berth 1 on an UP lane, with these runs. -/
def heard (present : Bool) (valid invalid : Nat) : State :=
  { idle with
    lanes := (Vector.replicate 4 {}).set 0 { state := .up }
    berths := (Vector.replicate 40 {}).set 0 { present := present, validRun := valid, invalidRun := invalid } }

/-- The slots of R155 that count as valid. -/
abbrev slotValid (s : State) (x : UpSlot) : Prop :=
  crc16 (be16 x.echo ++ [x.status] ++ (x.loopback.map be16).flatten) = x.crc ∧ x.echo + 2 = s.timer.frameNumber

theorem sealed_valid (s : State) (x : UpSlot) (h : x.echo + 2 = s.timer.frameNumber) : slotValid s (sealed x) := ⟨rfl, h⟩

theorem sealed_damaged (s : State) (x : UpSlot) : ¬ slotValid s { sealed x with crc := (sealed x).crc + 1 } := by
  have wrong : ∀ c : BitVec 16, c ≠ c + 1 := by intro c; bv_omega
  exact fun h => wrong _ h.1

theorem witness_UpstreamSlotIsJudged :
    LinkQuiet idle ∧ (∀ p v i, LinkQuiet (heard p v i)) ∧ idle.lanes[laneOf 0].state ≠ .up ∧
    (heard false 2 0).lanes[laneOf 0].state = .up ∧ (heard false 2 0).berths[0].slotJudged = false ∧
    slotValid (heard false 2 0) goodSlot ∧ ¬ slotValid (heard false 2 0) { goodSlot with crc := goodSlot.crc + 1 } ∧
    ¬ 8 ≤ (heard true 3 6).berths[0].invalidRun + 1 ∧ 8 ≤ (heard true 3 7).berths[0].invalidRun + 1 ∧
    (heard true 3 7).berths[0].present = true ∧ (heard false 0 7).berths[0].present = false ∧
    2 ≤ (heard false 2 0).berths[0].validRun ∧ ¬ 2 ≤ (heard false 1 0).berths[0].validRun := by
  exact ⟨quiet rfl, fun _ _ _ => quiet rfl, by decide, by decide, by decide, sealed_valid _ _ (by decide),
    sealed_damaged _ _, by decide, by decide, by decide, by decide, by decide, by decide⟩

/-- A lane that loses sync at a lane frame start, with a PRESENT berth; one whose test berth sent no slot. -/
theorem witness_frame_start_loses_berth :
    let s : State := { heard true 3 7 with
      lanes := (Vector.replicate 4 {}).set 0 { state := .up, badRun := 7 }
      test := { running := true, tested := 1, frame := 3 } }
    (s.lanes[laneOf 0].state = .up ∧ s.berths[0].slotJudged = false) ∧
    (s.berths[0].present = true ∧ 8 ≤ s.berths[0].invalidRun + 1) ∧
    (s.lanes[laneOf 0].trailerGood = false ∧ 8 ≤ s.lanes[laneOf 0].badRun + 1) ∧
    (s.test.running = true ∧ inSet s.test.tested 0 = true ∧ 3 ≤ s.test.frame) ∧ snapshotDue s = false := by decide

theorem witness_PresenceEventsAct :
    let s := fun x : BerthLink => ({ heard false 2 0 with berths := (Vector.replicate 40 {}).set 0 x } : State)
    (∀ x, LinkQuiet (s x)) ∧ (s { present := true }).berths[0].present = true ∧ idle.lanes[laneOf 0].state ≠ .up ∧
    (s {}).berths[0].present = false ∧ (s {}).lanes[laneOf 0].state = .up ∧
    ((s { call := { accepted := false, candidate := some true, run := 3 } }).berths[0].call.accepted = false ∧
      (s { call := { accepted := false, candidate := some true, run := 3 } }).berths[0].call.candidate.getD false = true) ∧
    (s { present := true, knob := { accepted := 0, candidate := some 15, run := 2 } }).berths[0].knob.candidate = some 15 ∧
    (15 : Fin 16) ≠ 0 ∧ (s {}).berths[0].headphone.candidate = none ∧
    (s { present := true, headphone := { accepted := false, candidate := some true, run := 2 } }).berths[0].headphone.candidate
      = some true ∧
    (s { present := true, screen := { accepted := false, candidate := some true, run := 2 } }).berths[0].screen.candidate
      = some true ∧
    (s { present := true, call := { accepted := true, candidate := some false, run := 2 } }).berths[0].call.candidate
      = some false :=
  ⟨fun _ => quiet rfl, by decide⟩

/-- A lane test of berth 1, and the part before it. -/
def testing : State := after (.laneTestStart 1 1) (heard true 3 0)

theorem witness_LaneTestRuns :
    LinkReady idle ∧ LinkReady { testing with link := {} } ∧ (1 : BerthSet) ≠ 0 ∧
    ({ testing with link := {} } : State).test.running = true ∧ (heard true 3 0).test.running = false ∧
    (heard true 3 0).emergency.latch = false ∧
    (∃ b : Berth, inSet 1 b = true ∧ (heard true 3 0).berths[b].present = true) ∧
    (∀ b : Berth, inSet 1 b = true → idle.berths[b].present = false) ∧
    (frameBegun .released false testing).emergency.latch = false ∧
    (frameBegun .released false { testing with emergency := { latch := true } }).emergency.latch = true :=
  ⟨ready rfl, ready rfl, by decide, by decide, by decide, by decide, by decide, by decide, by decide +kernel,
    by decide +kernel⟩

theorem witness_FrameStartSendsSlots :
    let s : State := { idle with lanes := ((Vector.replicate 4 {}).set 0 { state := .disabled }).set 1 { state := .up } }
    let t := frameBegun .released false s
    let d : DownSlot := { mode := .pass, card := 0, cells := List.replicate 4 { entry := true, data := List.replicate 250 1 }
                          audio := { headphones := List.replicate 48 (0, 0), speaker := List.replicate 48 0 }
                          loopback := true }
    t.lanes[0].state = .disabled ∧ t.lanes[1].state = .up ∧ t.lanes[2].state = .down ∧
    laneOf 10 = 1 ∧ laneOf 19 = 1 ∧ (∀ c ∈ d.cells, c.data.length = 250) ∧ d.cells.length ≤ 4 ∧
    d.audio.headphones.length = 48 ∧ d.audio.speaker.length = 48 ∧
    (∀ c ∈ ({ d with cells := [] } : DownSlot).cells, c.data.length = 250) := by decide +kernel

theorem witness_CountersReadReportsSnapshot :
    LinkReady idle ∧ (0 : Byte).toNat < 1 ∧ 8 < (9 : Byte).toNat ∧ (8 : Byte).toNat = (7 : Fin 8).val + 1 ∧
    2 < (3 : Byte).toNat ∧ 2 < (2 : Byte).toNat + (2 : Byte).toNat - 1 ∧ 1 ≤ (1 : Byte).toNat ∧
    (1 : Byte).toNat + (2 : Byte).toNat - 1 ≤ 2 ∧ (1 : Byte).toNat + (40 : Byte).toNat - 1 ≤ 40 :=
  ⟨ready rfl, by decide⟩

theorem witness_CounterBankSnapshots :
    let s := fun (k n : Nat) => ({ idle with
      settings := { idle.settings with autoSnapshot := k }, counters := { idle.counters with autoFrames := n } } : State)
    (∀ k n, LinkReady (s k n) ∧ LinkQuiet (s k n)) ∧ (s 1 0).settings.autoSnapshot = 1 ∧
    (s 0 0).settings.autoSnapshot ≠ 1 ∧ (s 1 998).counters.autoFrames < 999 ∧ (s 1 999).counters.autoFrames = 999 :=
  ⟨fun _ _ => ⟨ready rfl, quiet rfl⟩, by decide⟩

/-! The invariants: for each a state that is sound and not that of reset, with a command that acts on it in front. -/

theorem witness_LinkStaysSound :
    let s := { after (.take 5) (after (.status 6) idle) with pending := [.laneFrameStart .released] }
    s.link.Sound ∧ ∃ t, step s = .next t :=
  ⟨⟨by decide, by decide, by decide, by decide, by decide, by decide⟩, _, rfl⟩

theorem witness_VoiceChannelStaysOrdered :
    let v : Voice := { active := some (live 3 .crew), stack := [live 2 .service, live 1 .stop]
                       waiting := [live 5 .crew, live 4 .stop] }
    let s := { voiced v with pending := [.annEnd 7 3] }
    s.voice.Ordered ∧ s.voice.IdsUnique ∧ ∃ t, step s = .next t :=
  ⟨⟨by decide, by decide, by rintro _ ⟨⟩; decide, by decide, by decide, by decide⟩,
    (by decide : ([3, 2, 1, 5, 4] : List Byte).Nodup), _, rfl⟩

theorem witness_HeldClipsStayReady :
    let s : State := { voiced { active := some (played 3 .crew) } with clips := oneClip, pending := [.clipDelete 7 1] }
    HeldClipsReady s ∧ s.voice.records ≠ [] ∧ ∃ t, step s = .next t :=
  ⟨by intro r hr c hc; simp [voiced, Voice.records] at hr; subst hr; cases hc; decide, by decide, _, rfl⟩

theorem witness_ClipMemoryStaysCanonical :
    let s : State := { idle with clips := { loadingClip with mem := [(2, 0x80)] }, pending := [.clipData 7 1 0 0 1 [0x1234]] }
    MemorySound s ∧ s.clips.mem ≠ [] ∧ ∃ t, step s = .next t :=
  ⟨(by decide : Memory.wf [(2, 0x80)] = true), by decide, _, rfl⟩

theorem variant_empty (k : ClipNo) (v : Fin 4) : (({} : Clips).variant k v) = {} := by
  simp [Clips.variant]

theorem witness_BlockPoolStaysWhole :
    let s : State := { idle with pending := [.clipOpen 7 1 0 1] }
    s.clips.PoolSound ∧ ∃ t, step s = .next t := by
  refine ⟨?_, _, rfl⟩
  have h : ∀ k v, idle.clips.variant k v = {} := variant_empty
  have hf : idle.clips.free = List.range 4096 := by unfold idle State.reset; with_reducible rfl
  constructor
  · intro k v; rw [show (_ : Variant) = {} from h k v]; exact ⟨rfl, rfl, rfl⟩
  · exact hf ▸ List.pairwise_lt_range
  · exact fun b hb => List.mem_range.mp (hf ▸ hb)
  · intro k v; rw [show (_ : Variant) = {} from h k v]; simp
  · intro k v k' v' b hb; rw [show (_ : Variant) = {} from h k v] at hb; simp at hb
  · exact fun b hb => .inl (hf ▸ List.mem_range.mpr hb)

theorem idle_settings : idle.settings.InRange := by unfold Settings.InRange; decide

theorem witness_SettingsAndCountersStayInRange :
    let s : State := { idle with counters := { idle.counters with autoFrames := 999 }, pending := [.settingSet 7 1 0] }
    s.settings.InRange ∧ s.counters.Bounded ∧ ∃ t, step s = .next t :=
  ⟨idle_settings, ⟨by decide, by decide⟩, _, rfl⟩

theorem witness_ProgrammesAndAlarmStaySound :
    let s := { playing .pass 0 with pending := [.programmeSet 7 1 2] }
    let e : State := { idle with emergency := { accepted := .asserted, candidate := .asserted, runCount := 100, latch := true }
                                 pending := [.emergencyClear 7] }
    s.settings.InRange ∧ (∀ p : ProgrammeNo, s.programmes[p].Sound) ∧ (∃ t, step s = .next t) ∧
    e.emergency.Sound ∧ (∃ t, step e = .next t) ∧
    FirstFrameEmpty { idle with pending := [.cellArrival 1 true []] } ∧
    ∃ t, step { idle with pending := [.cellArrival 1 true []] } = .next t :=
  ⟨idle_settings, by simp only [Programme.Sound]; decide, ⟨_, rfl⟩, by simp only [Emergency.Sound]; decide, ⟨_, rfl⟩,
    fun _ => ⟨by decide, rfl, rfl⟩, _, rfl⟩

theorem witness_ClockStaysInRange :
    let s : State := { idle with clock := { isSet := true, day := 7, hour := 23, minute := 59, second := 59, held := true }
                                 pending := [.secondTick] }
    s.clock.Sound ∧ ∃ t, step s = .next t := ⟨by simp only [Clock.Sound]; decide, _, rfl⟩

theorem witness_WakeListStaysSound :
    let s := { booked .armed none with pending := [.wakeSet 7 2 1 5] }
    s.wake.Sound ∧ s.wake.entries ≠ [] ∧ ∃ t, step s = .next t :=
  ⟨⟨by decide, by decide, by decide, by simp only [WakeEntry.Sound]; decide⟩, by decide, _, rfl⟩

theorem witness_BerthsStaySound :
    let s := { testing with pending := [.laneSyncLoss 1] }
    BerthsSound s ∧ s.test.Sound ∧ s.test.running = true ∧ s.berths[0].present = true ∧ ∃ t, step s = .next t :=
  ⟨by simp only [BerthsSound, BerthLink.Sound]; decide, by simp only [LaneTest.Sound]; decide, by decide, by decide, _, rfl⟩

end Sys2Proof.Tests
end

section
/-! The programme sample of a berth (R15 to R17): which samples a route reaches, and what the conditioning makes of
them. -/

namespace Sys2Proof.Machine

/-! ## The samples a route reaches -/

section
variable {s : State} {r : RouteRecord} {p : ProgrammeNo}

theorem routedAudio_of_no_programme (hr : r.programme = none) : routedAudio s r = none := by
  simp only [routedAudio, hr]

/-- A programme that is not RUNNING, or whose samples are not usable, gives a route nothing (R16, R27). -/
theorem routedAudio_of_unplayable (hr : r.programme = some p)
    (h : s.programmes[p].state ≠ .running ∨ s.programmes[p].usable = none) : routedAudio s r = none := by
  simp only [routedAudio, hr]
  rcases h with stopped | unusable
  · exact if_neg stopped
  · simp only [unusable, Option.map_none, ite_self]

theorem routedAudio_of_usable {block : AudioBlock} (hr : r.programme = some p)
    (running : s.programmes[p].state = .running) (usable : s.programmes[p].usable = some block) :
    routedAudio s r = some (s.programmes[p], block) := by
  simp only [routedAudio, hr, if_pos running, usable, Option.map_some]

end

/-! ## The pair P of a berth -/

section
variable {s : State} {b : Berth} (k : Nat)

theorem programmePair_of_no_audio (h : routedAudio s s.routes[b].active = none) : programmePair s b k = (0, 0) := by
  simp only [programmePair, h]

/-- A switch guard mutes the berth, whatever its route reaches (R16). -/
theorem programmePair_of_guard (h : 0 < s.routes[b].guard) : programmePair s b k = (0, 0) := by
  cases audio : routedAudio s s.routes[b].active with
  | none => exact programmePair_of_no_audio k audio
  | some reached => simp only [programmePair, audio, if_pos h]

/-- SILENCE mutes the berth, whatever its route reaches (R16). -/
theorem programmePair_of_silence (h : s.routes[b].active.conditioning = .silence) :
    programmePair s b k = (0, 0) := by
  cases audio : routedAudio s s.routes[b].active with
  | none => exact programmePair_of_no_audio k audio
  | some reached => simp only [programmePair, audio, h, ite_self]

variable {x : Programme} {block : AudioBlock}

theorem programmePair_of_tone (audio : routedAudio s s.routes[b].active = some (x, block))
    (unguarded : s.routes[b].guard = 0) (tone : s.routes[b].active.conditioning = .tone) :
    programmePair s b k = (toneAt k, toneAt k) := by
  simp only [programmePair, audio, unguarded, tone, Nat.lt_irrefl, if_false]

theorem programmePair_of_pass (audio : routedAudio s s.routes[b].active = some (x, block))
    (unguarded : s.routes[b].guard = 0) (pass : s.routes[b].active.conditioning = .pass) :
    programmePair s b k =
      (block.tracks.getD (trackFor s.routes[b].active.language.val x.countInForce) []).getD k (0, 0) := by
  simp only [programmePair, audio, unguarded, pass, Nat.lt_irrefl, if_false]

end

/-- The halves of the square wave as 16-bit words: +8192 and −8192 (R17). -/
theorem toneAt_pair (k : Nat) :
    (toneAt k, toneAt k) = if k < 24 then (0x2000#16, 0x2000#16) else (0xE000#16, 0xE000#16) := by
  have low : toSample (-8192) = 0xE000#16 := by decide
  unfold toneAt
  split
  · rfl
  · rw [low]

/-- Settles O15, by what the route reaches: nothing, or the usable block of a RUNNING programme. -/
theorem programmeSampleIsChosen : Obligations.ProgrammeSampleIsChosen := by
  intro s b k _
  refine ⟨?muted, fun p routed => ⟨fun unplayable => ?_, fun block running usable unguarded => ?_⟩⟩
  case muted =>
    rintro (unrouted | guarded | silent)
    · exact programmePair_of_no_audio k (routedAudio_of_no_programme unrouted)
    · exact programmePair_of_guard k guarded
    · exact programmePair_of_silence k silent
  · exact programmePair_of_no_audio k (routedAudio_of_unplayable routed unplayable)
  · have audio := routedAudio_of_usable routed running usable
    exact ⟨fun tone => (programmePair_of_tone k audio unguarded tone).trans (toneAt_pair k),
      fun pass => programmePair_of_pass k audio unguarded pass⟩

end Sys2Proof.Machine
end

section
/-! CLIP_ABORT (R76, R77): what each branch of its handler answers, and the answer to its command. -/

namespace Sys2Proof.Machine

/-! ## The handler -/

section
variable {clip variant : Byte} {c : ClipNo} {v : Fin 4} {s : State}

theorem handleClipAbort_of_bad_field (h : clip.toNat < 1 ∨ 64 < clip.toNat ∨ 3 < variant.toNat) :
    handleClipAbort clip variant s = (s, refuse .badField) := by
  rcases (by omega : (clip.toNat < 1 ∨ 64 < clip.toNat) ∨ 4 ≤ variant.toNat) with badClip | badVariant
  · simp only [handleClipAbort, indexOf_none badClip]
  · cases found : indexOf 64 clip <;> simp only [handleClipAbort, found, below_none badVariant]

theorem handleClipAbort_of_not_loading (hc : clip.toNat = c.val + 1) (hv : variant.toNat = v.val)
    (h : (s.clips.variant c v).state ≠ .loading) :
    handleClipAbort clip variant s = (s, refuse .wrongState) := by
  simp only [handleClipAbort, indexOf_some hc, below_some hv, if_neg h]

theorem handleClipAbort_of_loading (hc : clip.toNat = c.val + 1) (hv : variant.toNat = v.val)
    (h : (s.clips.variant c v).state = .loading) :
    handleClipAbort clip variant s =
      ({ s with clips := s.clips.freeVariant c v }, okReply (u16 (s.clips.freeVariant c v).free.length)) := by
  simp only [handleClipAbort, indexOf_some hc, below_some hv, if_pos h]

end

/-! ## The command -/

/-- The command is answered at once with what its handler gives. -/
theorem exec_clipAbort_of_handler {serial clip variant : Byte} {s t : State} {x : Reply} (ready : LinkReady s)
    (h : handleClipAbort clip variant s = (t, x)) :
    exec (.clipAbort serial clip variant) s =
      .next (t.answered { kind := 0x2A, serial := serial, payload := [clip, variant] } x) := by
  have passed : passOn .clipAbort [clip, variant] s = replied (t, x) := congrArg replied h
  exact request_replied serial ready rfl passed

/-- Settles O28, by the branches of the handler: a number outside its range, a variant that is not LOADING, and
the freeing of one that is. -/
theorem clipAbortFrees : Obligations.ClipAbortFrees := by
  intro s serial clip variant ready
  refine ⟨fun bad => ?_, fun c v hc hv => ⟨fun notLoading => ?_, fun loading => ?_⟩⟩
  · exact exec_clipAbort_of_handler ready (handleClipAbort_of_bad_field bad)
  · exact exec_clipAbort_of_handler ready (handleClipAbort_of_not_loading hc hv notLoading)
  · refine ⟨{ s with clips := s.clips.freeVariant c v }, rfl, freeVariant_mem _ _ _, ?_, fun c' v' other => ?_,
      mem_freeVariant_free _ _ _, exec_clipAbort_of_handler ready (handleClipAbort_of_loading hc hv loading)⟩
    · exact (freeVariant_variant s.clips c v c v).trans (if_pos ⟨rfl, rfl⟩)
    · refine (freeVariant_variant s.clips c v c' v').trans (if_neg ?_)
      rintro ⟨rfl, rfl⟩
      exact other rfl

end Sys2Proof.Machine
end

section
/-! A reader's output at 48 kHz (R82, R83): the two samples of each pair, and that the midpoint of two samples is
a sample, so that no bit of it is lost. -/

namespace Sys2Proof.Machine

/-! ## A number as a sample -/

theorem toInt_toSample {x : Int} (low : -32768 ≤ x) (high : x < 32768) : (toSample x).toInt = x :=
  BitVec.toInt_ofInt_eq_self (by decide) low high

theorem sample_bounds (x : Sample) : -32768 ≤ x.toInt ∧ x.toInt < 32768 :=
  ⟨BitVec.le_toInt x, BitVec.toInt_lt⟩

/-! ## The pairs -/

section
variable (c : Clips) {r : Reader} {k : Nat}

theorem stored_of_lt (h : k < r.samples) : r.stored c k = (c.sample (c.variant r.clip r.variant) k).toInt :=
  if_pos h

theorem stored_of_ge (h : r.samples ≤ k) : r.stored c k = 0 := if_neg (Nat.not_lt.2 h)

theorem stored_bounds (r : Reader) (k : Nat) : -32768 ≤ r.stored c k ∧ r.stored c k < 32768 := by
  unfold Reader.stored
  split
  · exact sample_bounds _
  · decide

/-- The first sample of pair k is stored sample k (R82). -/
theorem outputAt_even (h : k < r.samples) : (r.outputAt c (2 * k)).toInt = r.stored c k := by
  obtain ⟨low, high⟩ := stored_bounds c r k
  have place : 2 * k / 2 = k := by omega
  have even : 2 * k % 2 = 0 := by omega
  simp only [Reader.outputAt, place, even, if_pos h, if_true]
  exact toInt_toSample low high

/-- The second sample of pair k is the midpoint to the one after it, rounded down (R82). -/
theorem outputAt_odd (h : k < r.samples) :
    (r.outputAt c (2 * k + 1)).toInt = (r.stored c k + r.stored c (k + 1)) / 2 := by
  obtain ⟨low, high⟩ := stored_bounds c r k
  obtain ⟨low', high'⟩ := stored_bounds c r (k + 1)
  have place : (2 * k + 1) / 2 = k := by omega
  have odd : ¬ (2 * k + 1) % 2 = 0 := by omega
  simp only [Reader.outputAt, place, if_neg odd, if_pos h]
  exact toInt_toSample (by omega) (by omega)

/-- After the last pair a reader gives 0 (R83). -/
theorem outputAt_of_past {q : Nat} (h : 2 * r.samples ≤ q) : r.outputAt c q = 0 := if_neg (by omega)

theorem frame_getElem? (r : Reader) {j : Nat} (h : j < 48) :
    (r.frame c)[j]? = some (r.outputAt c (r.position + j)) := by
  simp [Reader.frame, h]

end

/-- Settles O30, by the place of an output sample: the first or the second of pair k, or after the last pair. -/
theorem readerInterpolates : Obligations.ReaderInterpolates := by
  intro c r stored
  refine ⟨fun k h => ?first, fun k h => ?midpoint, fun k last => ?lastMidpoint, fun q past => outputAt_of_past c past,
    fun j h => frame_getElem? c r h⟩
  case first => rw [outputAt_even c h, stored_of_lt c h]
  case midpoint => rw [outputAt_odd c (Nat.lt_of_succ_lt h), stored_of_lt c (Nat.lt_of_succ_lt h), stored_of_lt c h]
  case lastMidpoint =>
    have h : k < r.samples := by omega
    rw [outputAt_odd c h, stored_of_lt c h, stored_of_ge c last.ge, Int.add_zero]

end Sys2Proof.Machine
end

section
/-! WAKE_CANCEL and WAKE_LIST (R133, R134): what each branch of the handlers answers, and the answers to their
commands. -/

namespace Sys2Proof.Machine

/-! ## The entry of a berth -/

section
variable {es : List WakeEntry} {b : Berth}

theorem entryOf_eq_none (h : ∀ e ∈ es, e.berth ≠ b) : entryOf es b = none :=
  List.find?_eq_none.2 fun e he found => h e he (eq_of_beq found)

theorem entryOf_isSome (h : ∃ e ∈ es, e.berth = b) : (entryOf es b).isSome := by
  obtain ⟨e, he, berth⟩ := h
  exact List.find?_isSome.2 ⟨e, he, beq_iff_eq.2 berth⟩

end

/-! ## The handler of WAKE_CANCEL -/

section
variable {berth : Byte} {b : Berth} {s : State}

theorem handleWakeCancel_of_bad_field (h : berth.toNat < 1 ∨ 40 < berth.toNat) :
    handleWakeCancel berth s = (s, refuse .badField) := by
  simp only [handleWakeCancel, indexOf_none h]

theorem handleWakeCancel_of_no_entry (hb : berth.toNat = b.val + 1) (h : ∀ e ∈ s.wake.entries, e.berth ≠ b) :
    handleWakeCancel berth s = (s, refuse .notFound) := by
  simp only [handleWakeCancel, indexOf_some hb, entryOf_eq_none h, Option.isSome_none, Bool.false_eq_true, if_false]

/-- The berth's entry leaves the list in any state, and nothing else changes. -/
theorem handleWakeCancel_of_entry (hb : berth.toNat = b.val + 1) (h : ∃ e ∈ s.wake.entries, e.berth = b) :
    handleWakeCancel berth s =
      ({ s with wake := { s.wake with entries := s.wake.entries.filter fun e => decide (e.berth ≠ b) } },
        okReply []) := by
  have kept : (fun e : WakeEntry => e.berth != b) = fun e => decide (e.berth ≠ b) :=
    funext fun e => (decide_not (p := e.berth = b)).symm
  simp only [handleWakeCancel, indexOf_some hb, if_pos (entryOf_isSome h), setEntries, kept]

end

/-! ## The commands -/

/-- The command is answered at once with what its handler gives. -/
theorem exec_wakeCancel_of_handler {serial berth : Byte} {s t : State} {x : Reply} (ready : LinkReady s)
    (h : handleWakeCancel berth s = (t, x)) :
    exec (.wakeCancel serial berth) s =
      .next (t.answered { kind := 0x37, serial := serial, payload := [berth] } x) := by
  have passed : passOn .wakeCancel [berth] s = replied (t, x) := congrArg replied h
  exact request_replied serial ready rfl passed

/-- The list is reported on the state as it stands (R134). -/
theorem exec_wakeList {serial : Byte} {s : State} (ready : LinkReady s) :
    exec (.wakeList serial) s =
      .next (s.answered { kind := 0x38, serial := serial, payload := [] }
        (okReply (u8 s.wake.entries.length :: (s.wake.entries.map WakeEntry.fields).flatten))) := by
  have passed : passOn .wakeList [] s = replied (handleWakeList s) := rfl
  exact request_replied serial ready rfl passed

/-- Settles O39, by the branches of WAKE_CANCEL's handler: a number outside its range, a berth without an entry,
and the removal of one. -/
theorem wakeRequestsAnswer : Obligations.WakeRequestsAnswer := by
  intro s serial berth ready
  refine ⟨fun bad => ?_, fun b hb => ⟨fun noEntry => ?_, fun entry => ?_⟩, exec_wakeList ready⟩
  · exact exec_wakeCancel_of_handler ready (handleWakeCancel_of_bad_field bad)
  · exact exec_wakeCancel_of_handler ready (handleWakeCancel_of_no_entry hb noEntry)
  · exact exec_wakeCancel_of_handler ready (handleWakeCancel_of_entry hb entry)

end Sys2Proof.Machine
end

section
/-! COUNTERS_READ (R168, R173): the group a code names, the values of a stretch of the snapshot bank, and the answer
to the command. -/

namespace Sys2Proof.Machine

/-! ## The groups of the bank -/

/-- The number of counters in the group at an index of the bank's group order (R168). -/
def groupSize (g : Fin 8) : Nat := [40, 40, 40, 4, 6, 6, 6, 2].getD g.val 0

/-- The place in the bank of a group's first counter (R168). -/
def groupBase (g : Fin 8) : Nat := [0, 40, 80, 120, 124, 130, 136, 142].getD g.val 0

/-- Every group stands whole in the bank. -/
theorem groupBase_add_groupSize_le : ∀ g : Fin 8, groupBase g + groupSize g ≤ 144 := by decide

section
variable {group : Byte}

theorem counterGroup_none (h : group.toNat < 1 ∨ 8 < group.toNat) : counterGroup group = none := by
  have outside : ∀ k : Byte, 1 ≤ k.toNat ∧ k.toNat ≤ 8 → group ≠ k := by
    rintro k inside rfl
    omega
  simp [counterGroup, outside]

theorem counterGroup_some {g : Fin 8} (h : group.toNat = g.val + 1) :
    counterGroup group = some (groupSize g, groupBase g) := by
  have code : group = BitVec.ofNat 8 (g.val + 1) := by rw [← h, BitVec.ofNat_toNat, BitVec.setWidth_eq]
  have table : ∀ i : Fin 8, counterGroup (BitVec.ofNat 8 (i.val + 1)) = some (groupSize i, groupBase i) := by decide
  rw [code, table]

end

/-- A stretch inside the bank is read as the snapshot values that stand there. -/
theorem snapshotValues_of_le (c : Counters) {start count : Nat} (h : start + count ≤ 144) :
    snapshotValues c start count = (((c.snapshot.toList.drop start).take count).map u16).flatten := by
  have values : (List.range count).map (fun k => c.snapshot.toList.getD (start + k) 0) =
      (c.snapshot.toList.drop start).take count := by
    refine List.ext_getElem (by simp; omega) fun k hk _ => ?_
    have stored : start + k < 144 := by simp at hk; omega
    simp [stored]
  rw [snapshotValues, ← values, List.map_map]
  rfl

/-! ## The handler -/

section
variable {group first count : Byte} {g : Fin 8} {s : State}

theorem handleCountersRead_of_no_group (h : group.toNat < 1 ∨ 8 < group.toNat) :
    handleCountersRead group first count s = (s, refuse .badField) := by
  simp only [handleCountersRead, counterGroup_none h]

theorem handleCountersRead_of_outside (hg : group.toNat = g.val + 1)
    (h : count = 0 ∨ first = 0 ∨ groupSize g < first.toNat ∨ groupSize g < first.toNat + count.toNat - 1) :
    handleCountersRead group first count s = (s, refuse .badField) := by
  have numbers := h.imp (congrArg BitVec.toNat) (Or.imp_left (congrArg BitVec.toNat))
  simp only [handleCountersRead, counterGroup_some hg]
  exact if_pos numbers

theorem handleCountersRead_of_inside (hg : group.toNat = g.val + 1) (counted : 1 ≤ count.toNat)
    (indexed : 1 ≤ first.toNat) (inside : first.toNat + count.toNat - 1 ≤ groupSize g) :
    handleCountersRead group first count s = (s, okReply (be16 s.counters.number ++ [group, first, count] ++
      (((s.counters.snapshot.toList.drop (groupBase g + first.toNat - 1)).take count.toNat).map u16).flatten)) := by
  have whole := groupBase_add_groupSize_le g
  have start : groupBase g + (first.toNat - 1) = groupBase g + first.toNat - 1 := by omega
  have accepted : ¬ (count.toNat = 0 ∨ first.toNat = 0 ∨ groupSize g < first.toNat ∨
      groupSize g < first.toNat + count.toNat - 1) := by omega
  simp only [handleCountersRead, counterGroup_some hg, if_neg accepted, start]
  rw [snapshotValues_of_le _ (by omega)]

end

/-! ## The command -/

/-- The command leaves the state to its answer: the handler only reads. -/
theorem exec_countersRead_of_handler {serial group first count : Byte} {s : State} {x : Reply} (ready : LinkReady s)
    (h : handleCountersRead group first count s = (s, x)) :
    exec (.countersRead serial group first count) s =
      .next (s.answered { kind := 0x49, serial := serial, payload := [group, first, count] } x) := by
  have passed : passOn .countersRead [group, first, count] s = replied (s, x) := congrArg replied h
  exact request_replied serial ready rfl passed

/-- Settles O48, by the branches of the handler: a code of no group, a stretch outside its group, and one inside. -/
theorem countersReadReportsSnapshot : Obligations.CountersReadReportsSnapshot := by
  intro s serial group first count ready
  refine ⟨fun noGroup => ?_, fun g hg => ⟨fun outside => ?_, fun counted indexed inside => ?_⟩⟩
  · exact exec_countersRead_of_handler ready (handleCountersRead_of_no_group noGroup)
  · exact exec_countersRead_of_handler ready (handleCountersRead_of_outside hg outside)
  · exact exec_countersRead_of_handler ready (handleCountersRead_of_inside hg counted indexed inside)

end Sys2Proof.Machine
end

section
/-! SETTING_GET (R186): what a setting reads after it is replaced, what each branch of the handler answers, and the
answer to the command. -/

namespace Sys2Proof.Machine

/-! ## The table -/

/-- A setting that is replaced reads back: each number has a field of its own in the table. -/
theorem Settings.get_put_same (t : Settings) (i : Fin 17) (v : Nat) : (t.put i v).get i = v := by
  fin_cases i <;> rfl

/-! ## The handler -/

section
variable {number : Byte} {i : Fin 17} {s : State}

theorem handleSettingGet_of_bad_field (h : number.toNat < 1 ∨ 17 < number.toNat) :
    handleSettingGet number s = (s, refuse .badField) := by
  simp only [handleSettingGet, indexOf_none h]

theorem handleSettingGet_of_setting (hi : number.toNat = i.val + 1) :
    handleSettingGet number s = (s, okReply (number :: u16 (s.settings.get i))) := by
  simp only [handleSettingGet, indexOf_some hi]

end

/-! ## The command -/

/-- The command leaves the state to its answer: the handler only reads. -/
theorem exec_settingGet_of_handler {serial number : Byte} {s : State} {x : Reply} (ready : LinkReady s)
    (h : handleSettingGet number s = (s, x)) :
    exec (.settingGet serial number) s =
      .next (s.answered { kind := 0x04, serial := serial, payload := [number] } x) := by
  have passed : passOn .settingGet [number] s = replied (s, x) := congrArg replied h
  exact request_replied serial ready rfl passed

/-- Settles O9, by the branches of the handler: a number outside its range, and the number of a setting. -/
theorem settingGetReports : Obligations.SettingGetReports := by
  intro s serial number ready
  refine ⟨fun bad => ?_, fun i hi => ⟨?_, s.settings.get_put_same i⟩⟩
  · exact exec_settingGet_of_handler ready (handleSettingGet_of_bad_field bad)
  · exact exec_settingGet_of_handler ready (handleSettingGet_of_setting hi)

end Sys2Proof.Machine
end

section
/-! What each event and each request leaves alone, block by block: the frame rules of the acts from which every
command is made. -/

namespace Sys2Proof.Machine

/-! ## Answers of the voice channel, and changes of a setting -/

@[simp] theorem stackLimitMet_keeps (r : Announcement) (s : State) :
    (stackLimitMet r s).settings = s.settings ∧ (stackLimitMet r s).routes = s.routes ∧
    (stackLimitMet r s).programmes = s.programmes ∧ (stackLimitMet r s).clips = s.clips ∧
    (stackLimitMet r s).mixer = s.mixer ∧ (stackLimitMet r s).emergency = s.emergency ∧
    (stackLimitMet r s).clock = s.clock ∧ (stackLimitMet r s).wake = s.wake ∧ (stackLimitMet r s).timer = s.timer ∧
    (stackLimitMet r s).lanes = s.lanes ∧ (stackLimitMet r s).berths = s.berths ∧
    (stackLimitMet r s).test = s.test ∧ (stackLimitMet r s).counters = s.counters ∧
    (stackLimitMet r s).orderCount = s.orderCount ∧ (stackLimitMet r s).pending = s.pending := by
  unfold stackLimitMet; split <;> simp

@[simp] theorem place_keeps (r : Announcement) (s : State) :
    ((place r s).1).settings = s.settings ∧ ((place r s).1).routes = s.routes ∧
    ((place r s).1).programmes = s.programmes ∧ ((place r s).1).clips = s.clips ∧ ((place r s).1).mixer = s.mixer ∧
    ((place r s).1).emergency = s.emergency ∧ ((place r s).1).clock = s.clock ∧ ((place r s).1).wake = s.wake ∧
    ((place r s).1).timer = s.timer ∧ ((place r s).1).lanes = s.lanes ∧ ((place r s).1).berths = s.berths ∧
    ((place r s).1).test = s.test ∧ ((place r s).1).counters = s.counters ∧
    ((place r s).1).orderCount = s.orderCount ∧ ((place r s).1).pending = s.pending := by
  unfold place
  split
  · simp
  · split
    · simp
    · split
      · split <;> simp
      · simp

@[simp] theorem autoAnnounce_keeps (b : Berth) (name : Option ClipNo) (s : State) :
    ((autoAnnounce b name s).1).settings = s.settings ∧ ((autoAnnounce b name s).1).routes = s.routes ∧
    ((autoAnnounce b name s).1).programmes = s.programmes ∧ ((autoAnnounce b name s).1).clips = s.clips ∧
    ((autoAnnounce b name s).1).mixer = s.mixer ∧ ((autoAnnounce b name s).1).emergency = s.emergency ∧
    ((autoAnnounce b name s).1).clock = s.clock ∧ ((autoAnnounce b name s).1).wake = s.wake ∧
    ((autoAnnounce b name s).1).timer = s.timer ∧ ((autoAnnounce b name s).1).lanes = s.lanes ∧
    ((autoAnnounce b name s).1).berths = s.berths ∧ ((autoAnnounce b name s).1).test = s.test ∧
    ((autoAnnounce b name s).1).counters = s.counters ∧ ((autoAnnounce b name s).1).orderCount = s.orderCount ∧
    ((autoAnnounce b name s).1).pending = s.pending := by
  unfold autoAnnounce
  split
  · simp
  · split
    · simp
    · dsimp only; split <;> simp

@[simp] theorem callPress_keeps (b : Berth) (s : State) :
    (callPress b s).settings = s.settings ∧ (callPress b s).routes = s.routes ∧
    (callPress b s).programmes = s.programmes ∧ (callPress b s).clips = s.clips ∧ (callPress b s).mixer = s.mixer ∧
    (callPress b s).emergency = s.emergency ∧ (callPress b s).clock = s.clock ∧ (callPress b s).timer = s.timer ∧
    (callPress b s).lanes = s.lanes ∧ (callPress b s).berths = s.berths ∧ (callPress b s).test = s.test ∧
    (callPress b s).counters = s.counters ∧ (callPress b s).orderCount = s.orderCount ∧
    (callPress b s).pending = s.pending := by
  unfold callPress
  split
  · simp
  · split <;> simp

@[simp] theorem depthLimitChanged_keeps (old : Nat) (s : State) :
    (depthLimitChanged old s).settings = s.settings ∧ (depthLimitChanged old s).routes = s.routes ∧
    (depthLimitChanged old s).programmes = s.programmes ∧ (depthLimitChanged old s).clips = s.clips ∧
    (depthLimitChanged old s).mixer = s.mixer ∧ (depthLimitChanged old s).emergency = s.emergency ∧
    (depthLimitChanged old s).clock = s.clock ∧ (depthLimitChanged old s).wake = s.wake ∧
    (depthLimitChanged old s).timer = s.timer ∧ (depthLimitChanged old s).lanes = s.lanes ∧
    (depthLimitChanged old s).berths = s.berths ∧ (depthLimitChanged old s).test = s.test ∧
    (depthLimitChanged old s).counters = s.counters ∧ (depthLimitChanged old s).link = s.link ∧
    (depthLimitChanged old s).orderCount = s.orderCount ∧ (depthLimitChanged old s).pending = s.pending := by
  unfold depthLimitChanged; dsimp only; split <;> simp

@[simp] theorem autoSnapshotChanged_keeps (old : Nat) (s : State) :
    (autoSnapshotChanged old s).settings = s.settings ∧ (autoSnapshotChanged old s).routes = s.routes ∧
    (autoSnapshotChanged old s).programmes = s.programmes ∧ (autoSnapshotChanged old s).voice = s.voice ∧
    (autoSnapshotChanged old s).clips = s.clips ∧ (autoSnapshotChanged old s).mixer = s.mixer ∧
    (autoSnapshotChanged old s).emergency = s.emergency ∧ (autoSnapshotChanged old s).clock = s.clock ∧
    (autoSnapshotChanged old s).wake = s.wake ∧ (autoSnapshotChanged old s).timer = s.timer ∧
    (autoSnapshotChanged old s).lanes = s.lanes ∧ (autoSnapshotChanged old s).berths = s.berths ∧
    (autoSnapshotChanged old s).test = s.test ∧ (autoSnapshotChanged old s).link = s.link ∧
    (autoSnapshotChanged old s).orderCount = s.orderCount ∧ (autoSnapshotChanged old s).pending = s.pending := by
  unfold autoSnapshotChanged; split <;> simp

@[simp] theorem settingEffects_keeps (i : Fin 17) (old : Settings) (s : State) :
    (settingEffects i old s).settings = s.settings ∧ (settingEffects i old s).routes = s.routes ∧
    (settingEffects i old s).programmes = s.programmes ∧ (settingEffects i old s).clips = s.clips ∧
    (settingEffects i old s).mixer = s.mixer ∧ (settingEffects i old s).emergency = s.emergency ∧
    (settingEffects i old s).wake = s.wake ∧ (settingEffects i old s).timer = s.timer ∧
    (settingEffects i old s).lanes = s.lanes ∧ (settingEffects i old s).berths = s.berths ∧
    (settingEffects i old s).test = s.test ∧ (settingEffects i old s).link = s.link ∧
    (settingEffects i old s).orderCount = s.orderCount ∧ (settingEffects i old s).pending = s.pending := by
  unfold settingEffects; split <;> simp

/-! ## The timer and the programme inputs -/

@[simp] theorem strobeSeen_keeps (s : State) :
    (strobeSeen s).settings = s.settings ∧ (strobeSeen s).routes = s.routes ∧
    (strobeSeen s).programmes = s.programmes ∧ (strobeSeen s).voice = s.voice ∧ (strobeSeen s).clips = s.clips ∧
    (strobeSeen s).mixer = s.mixer ∧ (strobeSeen s).emergency = s.emergency ∧ (strobeSeen s).clock = s.clock ∧
    (strobeSeen s).wake = s.wake ∧ (strobeSeen s).lanes = s.lanes ∧ (strobeSeen s).berths = s.berths ∧
    (strobeSeen s).test = s.test ∧ (strobeSeen s).counters = s.counters ∧ (strobeSeen s).link = s.link ∧
    (strobeSeen s).orderCount = s.orderCount ∧ (strobeSeen s).pending = s.pending := by
  simp [strobeSeen]

@[simp] theorem referenceLostEvent_keeps (s : State) :
    (referenceLostEvent s).settings = s.settings ∧ (referenceLostEvent s).routes = s.routes ∧
    (referenceLostEvent s).programmes = s.programmes ∧ (referenceLostEvent s).voice = s.voice ∧
    (referenceLostEvent s).clips = s.clips ∧ (referenceLostEvent s).mixer = s.mixer ∧
    (referenceLostEvent s).emergency = s.emergency ∧ (referenceLostEvent s).clock = s.clock ∧
    (referenceLostEvent s).wake = s.wake ∧ (referenceLostEvent s).lanes = s.lanes ∧
    (referenceLostEvent s).berths = s.berths ∧ (referenceLostEvent s).test = s.test ∧
    (referenceLostEvent s).counters = s.counters ∧ (referenceLostEvent s).orderCount = s.orderCount ∧
    (referenceLostEvent s).pending = s.pending := by
  unfold referenceLostEvent; split <;> simp

@[simp] theorem guardExpiredEvent_keeps (b : Berth) (s : State) :
    (guardExpiredEvent b s).settings = s.settings ∧ (guardExpiredEvent b s).programmes = s.programmes ∧
    (guardExpiredEvent b s).voice = s.voice ∧ (guardExpiredEvent b s).clips = s.clips ∧
    (guardExpiredEvent b s).mixer = s.mixer ∧ (guardExpiredEvent b s).emergency = s.emergency ∧
    (guardExpiredEvent b s).clock = s.clock ∧ (guardExpiredEvent b s).wake = s.wake ∧
    (guardExpiredEvent b s).timer = s.timer ∧ (guardExpiredEvent b s).lanes = s.lanes ∧
    (guardExpiredEvent b s).berths = s.berths ∧ (guardExpiredEvent b s).test = s.test ∧
    (guardExpiredEvent b s).counters = s.counters ∧ (guardExpiredEvent b s).link = s.link ∧
    (guardExpiredEvent b s).orderCount = s.orderCount ∧ (guardExpiredEvent b s).pending = s.pending := by
  simp [guardExpiredEvent]

@[simp] theorem stallEvent_keeps (p : ProgrammeNo) (s : State) :
    (stallEvent p s).settings = s.settings ∧ (stallEvent p s).routes = s.routes ∧
    (stallEvent p s).voice = s.voice ∧ (stallEvent p s).clips = s.clips ∧ (stallEvent p s).mixer = s.mixer ∧
    (stallEvent p s).emergency = s.emergency ∧ (stallEvent p s).clock = s.clock ∧ (stallEvent p s).wake = s.wake ∧
    (stallEvent p s).timer = s.timer ∧ (stallEvent p s).lanes = s.lanes ∧ (stallEvent p s).berths = s.berths ∧
    (stallEvent p s).test = s.test ∧ (stallEvent p s).orderCount = s.orderCount ∧
    (stallEvent p s).pending = s.pending := by
  unfold stallEvent; split <;> simp

@[simp] theorem entryPoint_keeps (p : ProgrammeNo) (s : State) :
    (entryPoint p s).settings = s.settings ∧ (entryPoint p s).routes = s.routes ∧
    (entryPoint p s).voice = s.voice ∧ (entryPoint p s).clips = s.clips ∧ (entryPoint p s).mixer = s.mixer ∧
    (entryPoint p s).emergency = s.emergency ∧ (entryPoint p s).clock = s.clock ∧ (entryPoint p s).wake = s.wake ∧
    (entryPoint p s).timer = s.timer ∧ (entryPoint p s).lanes = s.lanes ∧ (entryPoint p s).berths = s.berths ∧
    (entryPoint p s).test = s.test ∧ (entryPoint p s).counters = s.counters ∧
    (entryPoint p s).orderCount = s.orderCount ∧ (entryPoint p s).pending = s.pending := by
  unfold entryPoint; dsimp only; split <;> simp

@[simp] theorem takeCell_keeps (p : ProgrammeNo) (cell : VideoCell) (s : State) :
    (takeCell p cell s).settings = s.settings ∧ (takeCell p cell s).routes = s.routes ∧
    (takeCell p cell s).voice = s.voice ∧ (takeCell p cell s).clips = s.clips ∧
    (takeCell p cell s).mixer = s.mixer ∧ (takeCell p cell s).emergency = s.emergency ∧
    (takeCell p cell s).clock = s.clock ∧ (takeCell p cell s).wake = s.wake ∧ (takeCell p cell s).timer = s.timer ∧
    (takeCell p cell s).lanes = s.lanes ∧ (takeCell p cell s).berths = s.berths ∧
    (takeCell p cell s).test = s.test ∧ (takeCell p cell s).link = s.link ∧
    (takeCell p cell s).orderCount = s.orderCount ∧ (takeCell p cell s).pending = s.pending := by
  unfold takeCell; split <;> simp

@[simp] theorem cellArrives_keeps (p : Byte) (entry : Bool) (video : List Byte) (s : State) :
    (cellArrives p entry video s).settings = s.settings ∧ (cellArrives p entry video s).routes = s.routes ∧
    (cellArrives p entry video s).voice = s.voice ∧ (cellArrives p entry video s).clips = s.clips ∧
    (cellArrives p entry video s).mixer = s.mixer ∧ (cellArrives p entry video s).emergency = s.emergency ∧
    (cellArrives p entry video s).clock = s.clock ∧ (cellArrives p entry video s).wake = s.wake ∧
    (cellArrives p entry video s).timer = s.timer ∧ (cellArrives p entry video s).lanes = s.lanes ∧
    (cellArrives p entry video s).berths = s.berths ∧ (cellArrives p entry video s).test = s.test ∧
    (cellArrives p entry video s).orderCount = s.orderCount ∧ (cellArrives p entry video s).pending = s.pending := by
  unfold cellArrives
  split
  · simp
  · split
    · dsimp only; split <;> simp
    · simp

@[simp] theorem audioArrives_keeps (p n : Byte) (tracks : List (List (Sample × Sample))) (whole : Bool) (s : State) :
    (audioArrives p n tracks whole s).settings = s.settings ∧ (audioArrives p n tracks whole s).routes = s.routes ∧
    (audioArrives p n tracks whole s).voice = s.voice ∧ (audioArrives p n tracks whole s).clips = s.clips ∧
    (audioArrives p n tracks whole s).mixer = s.mixer ∧ (audioArrives p n tracks whole s).emergency = s.emergency ∧
    (audioArrives p n tracks whole s).clock = s.clock ∧ (audioArrives p n tracks whole s).wake = s.wake ∧
    (audioArrives p n tracks whole s).timer = s.timer ∧ (audioArrives p n tracks whole s).lanes = s.lanes ∧
    (audioArrives p n tracks whole s).berths = s.berths ∧ (audioArrives p n tracks whole s).test = s.test ∧
    (audioArrives p n tracks whole s).counters = s.counters ∧ (audioArrives p n tracks whole s).link = s.link ∧
    (audioArrives p n tracks whole s).orderCount = s.orderCount ∧
    (audioArrives p n tracks whole s).pending = s.pending := by
  unfold audioArrives
  split
  · simp
  · split <;> simp

/-! ## The voice channel, the mixer and the emergency line -/

@[simp] theorem micArrives_keeps (m : Mic) (x : Sample) (s : State) :
    (micArrives m x s).settings = s.settings ∧ (micArrives m x s).routes = s.routes ∧
    (micArrives m x s).programmes = s.programmes ∧ (micArrives m x s).clips = s.clips ∧
    (micArrives m x s).mixer = s.mixer ∧ (micArrives m x s).emergency = s.emergency ∧
    (micArrives m x s).clock = s.clock ∧ (micArrives m x s).wake = s.wake ∧ (micArrives m x s).timer = s.timer ∧
    (micArrives m x s).lanes = s.lanes ∧ (micArrives m x s).berths = s.berths ∧ (micArrives m x s).test = s.test ∧
    (micArrives m x s).counters = s.counters ∧ (micArrives m x s).link = s.link ∧
    (micArrives m x s).orderCount = s.orderCount ∧ (micArrives m x s).pending = s.pending := by
  unfold micArrives; split <;> simp

@[simp] theorem repeatEndEvent_keeps (s : State) :
    (repeatEndEvent s).settings = s.settings ∧ (repeatEndEvent s).routes = s.routes ∧
    (repeatEndEvent s).programmes = s.programmes ∧ (repeatEndEvent s).clips = s.clips ∧
    (repeatEndEvent s).mixer = s.mixer ∧ (repeatEndEvent s).emergency = s.emergency ∧
    (repeatEndEvent s).clock = s.clock ∧ (repeatEndEvent s).wake = s.wake ∧ (repeatEndEvent s).timer = s.timer ∧
    (repeatEndEvent s).lanes = s.lanes ∧ (repeatEndEvent s).berths = s.berths ∧ (repeatEndEvent s).test = s.test ∧
    (repeatEndEvent s).counters = s.counters ∧ (repeatEndEvent s).orderCount = s.orderCount ∧
    (repeatEndEvent s).pending = s.pending := by
  unfold repeatEndEvent progress
  split
  · simp
  · split
    · split <;> simp
    · simp

@[simp] theorem gapEndEvent_keeps (s : State) :
    (gapEndEvent s).settings = s.settings ∧ (gapEndEvent s).routes = s.routes ∧
    (gapEndEvent s).programmes = s.programmes ∧ (gapEndEvent s).clips = s.clips ∧ (gapEndEvent s).mixer = s.mixer ∧
    (gapEndEvent s).emergency = s.emergency ∧ (gapEndEvent s).clock = s.clock ∧ (gapEndEvent s).wake = s.wake ∧
    (gapEndEvent s).timer = s.timer ∧ (gapEndEvent s).lanes = s.lanes ∧ (gapEndEvent s).berths = s.berths ∧
    (gapEndEvent s).test = s.test ∧ (gapEndEvent s).counters = s.counters ∧
    (gapEndEvent s).orderCount = s.orderCount ∧ (gapEndEvent s).pending = s.pending := by
  unfold gapEndEvent progress
  split
  · simp
  · split
    · split <;> simp
    · simp

@[simp] theorem liveTimeoutEvent_keeps (s : State) :
    (liveTimeoutEvent s).settings = s.settings ∧ (liveTimeoutEvent s).routes = s.routes ∧
    (liveTimeoutEvent s).programmes = s.programmes ∧ (liveTimeoutEvent s).clips = s.clips ∧
    (liveTimeoutEvent s).mixer = s.mixer ∧ (liveTimeoutEvent s).emergency = s.emergency ∧
    (liveTimeoutEvent s).clock = s.clock ∧ (liveTimeoutEvent s).wake = s.wake ∧
    (liveTimeoutEvent s).timer = s.timer ∧ (liveTimeoutEvent s).lanes = s.lanes ∧
    (liveTimeoutEvent s).berths = s.berths ∧ (liveTimeoutEvent s).test = s.test ∧
    (liveTimeoutEvent s).counters = s.counters ∧ (liveTimeoutEvent s).orderCount = s.orderCount ∧
    (liveTimeoutEvent s).pending = s.pending := by
  unfold liveTimeoutEvent progress
  split
  · simp
  · split
    · split <;> simp
    · simp

@[simp] theorem peakPeriodEvent_keeps (s : State) :
    (peakPeriodEvent s).settings = s.settings ∧ (peakPeriodEvent s).routes = s.routes ∧
    (peakPeriodEvent s).programmes = s.programmes ∧ (peakPeriodEvent s).voice = s.voice ∧
    (peakPeriodEvent s).clips = s.clips ∧ (peakPeriodEvent s).emergency = s.emergency ∧
    (peakPeriodEvent s).clock = s.clock ∧ (peakPeriodEvent s).wake = s.wake ∧ (peakPeriodEvent s).timer = s.timer ∧
    (peakPeriodEvent s).lanes = s.lanes ∧ (peakPeriodEvent s).berths = s.berths ∧
    (peakPeriodEvent s).test = s.test ∧ (peakPeriodEvent s).counters = s.counters ∧
    (peakPeriodEvent s).link = s.link ∧ (peakPeriodEvent s).orderCount = s.orderCount ∧
    (peakPeriodEvent s).pending = s.pending := by
  simp [peakPeriodEvent]

@[simp] theorem alarmAcceptedEvent_keeps (s : State) :
    (alarmAcceptedEvent s).settings = s.settings ∧ (alarmAcceptedEvent s).routes = s.routes ∧
    (alarmAcceptedEvent s).programmes = s.programmes ∧ (alarmAcceptedEvent s).voice = s.voice ∧
    (alarmAcceptedEvent s).clips = s.clips ∧ (alarmAcceptedEvent s).mixer = s.mixer ∧
    (alarmAcceptedEvent s).clock = s.clock ∧ (alarmAcceptedEvent s).wake = s.wake ∧
    (alarmAcceptedEvent s).timer = s.timer ∧ (alarmAcceptedEvent s).lanes = s.lanes ∧
    (alarmAcceptedEvent s).berths = s.berths ∧ (alarmAcceptedEvent s).test = s.test ∧
    (alarmAcceptedEvent s).counters = s.counters ∧ (alarmAcceptedEvent s).orderCount = s.orderCount ∧
    (alarmAcceptedEvent s).pending = s.pending := by
  unfold alarmAcceptedEvent; dsimp only; split <;> simp

/-! ## The clock and the wake list -/

@[simp] theorem secondTickEvent_keeps (s : State) :
    (secondTickEvent s).settings = s.settings ∧ (secondTickEvent s).routes = s.routes ∧
    (secondTickEvent s).programmes = s.programmes ∧ (secondTickEvent s).voice = s.voice ∧
    (secondTickEvent s).clips = s.clips ∧ (secondTickEvent s).mixer = s.mixer ∧
    (secondTickEvent s).emergency = s.emergency ∧ (secondTickEvent s).timer = s.timer ∧
    (secondTickEvent s).lanes = s.lanes ∧ (secondTickEvent s).berths = s.berths ∧
    (secondTickEvent s).test = s.test ∧ (secondTickEvent s).counters = s.counters ∧
    (secondTickEvent s).orderCount = s.orderCount ∧ (secondTickEvent s).pending = s.pending := by
  unfold secondTickEvent; split <;> simp

@[simp] theorem minuteTickEvent_keeps (s : State) :
    (minuteTickEvent s).settings = s.settings ∧ (minuteTickEvent s).routes = s.routes ∧
    (minuteTickEvent s).programmes = s.programmes ∧ (minuteTickEvent s).voice = s.voice ∧
    (minuteTickEvent s).clips = s.clips ∧ (minuteTickEvent s).mixer = s.mixer ∧
    (minuteTickEvent s).emergency = s.emergency ∧ (minuteTickEvent s).timer = s.timer ∧
    (minuteTickEvent s).lanes = s.lanes ∧ (minuteTickEvent s).berths = s.berths ∧
    (minuteTickEvent s).test = s.test ∧ (minuteTickEvent s).counters = s.counters ∧
    (minuteTickEvent s).orderCount = s.orderCount ∧ (minuteTickEvent s).pending = s.pending := by
  unfold minuteTickEvent; split <;> simp

@[simp] theorem ringLimitEvent_keeps (b : Berth) (s : State) :
    (ringLimitEvent b s).settings = s.settings ∧ (ringLimitEvent b s).routes = s.routes ∧
    (ringLimitEvent b s).programmes = s.programmes ∧ (ringLimitEvent b s).voice = s.voice ∧
    (ringLimitEvent b s).clips = s.clips ∧ (ringLimitEvent b s).mixer = s.mixer ∧
    (ringLimitEvent b s).emergency = s.emergency ∧ (ringLimitEvent b s).clock = s.clock ∧
    (ringLimitEvent b s).timer = s.timer ∧ (ringLimitEvent b s).lanes = s.lanes ∧
    (ringLimitEvent b s).berths = s.berths ∧ (ringLimitEvent b s).test = s.test ∧
    (ringLimitEvent b s).counters = s.counters ∧ (ringLimitEvent b s).orderCount = s.orderCount ∧
    (ringLimitEvent b s).pending = s.pending := by
  unfold ringLimitEvent
  split
  · simp
  · split <;> simp

/-! ## The lanes and the berths -/

@[simp] theorem laneTrainedEvent_keeps (l : LaneNo) (s : State) :
    (laneTrainedEvent l s).settings = s.settings ∧ (laneTrainedEvent l s).routes = s.routes ∧
    (laneTrainedEvent l s).programmes = s.programmes ∧ (laneTrainedEvent l s).voice = s.voice ∧
    (laneTrainedEvent l s).clips = s.clips ∧ (laneTrainedEvent l s).mixer = s.mixer ∧
    (laneTrainedEvent l s).emergency = s.emergency ∧ (laneTrainedEvent l s).clock = s.clock ∧
    (laneTrainedEvent l s).wake = s.wake ∧ (laneTrainedEvent l s).timer = s.timer ∧
    (laneTrainedEvent l s).berths = s.berths ∧ (laneTrainedEvent l s).test = s.test ∧
    (laneTrainedEvent l s).counters = s.counters ∧ (laneTrainedEvent l s).orderCount = s.orderCount ∧
    (laneTrainedEvent l s).pending = s.pending := by
  unfold laneTrainedEvent; split <;> simp

@[simp] theorem laneSyncLossEvent_keeps (l : LaneNo) (s : State) :
    (laneSyncLossEvent l s).settings = s.settings ∧ (laneSyncLossEvent l s).routes = s.routes ∧
    (laneSyncLossEvent l s).programmes = s.programmes ∧ (laneSyncLossEvent l s).voice = s.voice ∧
    (laneSyncLossEvent l s).clips = s.clips ∧ (laneSyncLossEvent l s).mixer = s.mixer ∧
    (laneSyncLossEvent l s).emergency = s.emergency ∧ (laneSyncLossEvent l s).clock = s.clock ∧
    (laneSyncLossEvent l s).wake = s.wake ∧ (laneSyncLossEvent l s).timer = s.timer ∧
    (laneSyncLossEvent l s).test = s.test ∧ (laneSyncLossEvent l s).orderCount = s.orderCount ∧
    (laneSyncLossEvent l s).pending = s.pending := by
  unfold laneSyncLossEvent; split <;> simp

@[simp] theorem trailerArrives_keeps (l : LaneNo) (echo crc : BitVec 16) (s : State) :
    (trailerArrives l echo crc s).settings = s.settings ∧ (trailerArrives l echo crc s).routes = s.routes ∧
    (trailerArrives l echo crc s).programmes = s.programmes ∧ (trailerArrives l echo crc s).voice = s.voice ∧
    (trailerArrives l echo crc s).clips = s.clips ∧ (trailerArrives l echo crc s).mixer = s.mixer ∧
    (trailerArrives l echo crc s).emergency = s.emergency ∧ (trailerArrives l echo crc s).clock = s.clock ∧
    (trailerArrives l echo crc s).wake = s.wake ∧ (trailerArrives l echo crc s).timer = s.timer ∧
    (trailerArrives l echo crc s).berths = s.berths ∧ (trailerArrives l echo crc s).test = s.test ∧
    (trailerArrives l echo crc s).counters = s.counters ∧ (trailerArrives l echo crc s).link = s.link ∧
    (trailerArrives l echo crc s).orderCount = s.orderCount ∧ (trailerArrives l echo crc s).pending = s.pending := by
  unfold trailerArrives; dsimp only; split <;> simp

@[simp] theorem afterAccept_keeps (b : Berth) (report press : Bool) (s : State) :
    (afterAccept b report press s).settings = s.settings ∧ (afterAccept b report press s).routes = s.routes ∧
    (afterAccept b report press s).programmes = s.programmes ∧ (afterAccept b report press s).clips = s.clips ∧
    (afterAccept b report press s).mixer = s.mixer ∧ (afterAccept b report press s).emergency = s.emergency ∧
    (afterAccept b report press s).clock = s.clock ∧ (afterAccept b report press s).timer = s.timer ∧
    (afterAccept b report press s).lanes = s.lanes ∧ (afterAccept b report press s).test = s.test ∧
    (afterAccept b report press s).counters = s.counters ∧
    (afterAccept b report press s).orderCount = s.orderCount ∧ (afterAccept b report press s).pending = s.pending := by
  unfold afterAccept; cases report <;> cases press <;> simp

@[simp] theorem makePresent_keeps (b : Berth) (s : State) :
    (makePresent b s).settings = s.settings ∧ (makePresent b s).routes = s.routes ∧
    (makePresent b s).programmes = s.programmes ∧ (makePresent b s).clips = s.clips ∧
    (makePresent b s).mixer = s.mixer ∧ (makePresent b s).emergency = s.emergency ∧
    (makePresent b s).clock = s.clock ∧ (makePresent b s).timer = s.timer ∧ (makePresent b s).lanes = s.lanes ∧
    (makePresent b s).test = s.test ∧ (makePresent b s).counters = s.counters ∧
    (makePresent b s).orderCount = s.orderCount ∧ (makePresent b s).pending = s.pending := by
  simp [makePresent]

@[simp] theorem validSlot_keeps (b : Berth) (status : Byte) (s : State) :
    (validSlot b status s).settings = s.settings ∧ (validSlot b status s).routes = s.routes ∧
    (validSlot b status s).programmes = s.programmes ∧ (validSlot b status s).clips = s.clips ∧
    (validSlot b status s).mixer = s.mixer ∧ (validSlot b status s).emergency = s.emergency ∧
    (validSlot b status s).clock = s.clock ∧ (validSlot b status s).timer = s.timer ∧
    (validSlot b status s).lanes = s.lanes ∧ (validSlot b status s).test = s.test ∧
    (validSlot b status s).counters = s.counters ∧ (validSlot b status s).orderCount = s.orderCount ∧
    (validSlot b status s).pending = s.pending := by
  unfold validSlot
  dsimp only
  split
  · simp
  · split <;> simp

@[simp] theorem slotArrives_keeps (b : Berth) (slot : UpSlot) (s : State) :
    (slotArrives b slot s).settings = s.settings ∧ (slotArrives b slot s).routes = s.routes ∧
    (slotArrives b slot s).programmes = s.programmes ∧ (slotArrives b slot s).clips = s.clips ∧
    (slotArrives b slot s).mixer = s.mixer ∧ (slotArrives b slot s).emergency = s.emergency ∧
    (slotArrives b slot s).clock = s.clock ∧ (slotArrives b slot s).timer = s.timer ∧
    (slotArrives b slot s).lanes = s.lanes ∧ (slotArrives b slot s).test = s.test ∧
    (slotArrives b slot s).orderCount = s.orderCount ∧ (slotArrives b slot s).pending = s.pending := by
  unfold slotArrives
  split
  · simp
  · dsimp only
    split
    · split <;> simp
    · simp

@[simp] theorem berthPresentEvent_keeps (b : Berth) (s : State) :
    (berthPresentEvent b s).settings = s.settings ∧ (berthPresentEvent b s).routes = s.routes ∧
    (berthPresentEvent b s).programmes = s.programmes ∧ (berthPresentEvent b s).clips = s.clips ∧
    (berthPresentEvent b s).mixer = s.mixer ∧ (berthPresentEvent b s).emergency = s.emergency ∧
    (berthPresentEvent b s).clock = s.clock ∧ (berthPresentEvent b s).timer = s.timer ∧
    (berthPresentEvent b s).lanes = s.lanes ∧ (berthPresentEvent b s).test = s.test ∧
    (berthPresentEvent b s).counters = s.counters ∧ (berthPresentEvent b s).orderCount = s.orderCount ∧
    (berthPresentEvent b s).pending = s.pending := by
  unfold berthPresentEvent; split <;> simp

@[simp] theorem berthAbsentEvent_keeps (b : Berth) (s : State) :
    (berthAbsentEvent b s).settings = s.settings ∧ (berthAbsentEvent b s).routes = s.routes ∧
    (berthAbsentEvent b s).programmes = s.programmes ∧ (berthAbsentEvent b s).voice = s.voice ∧
    (berthAbsentEvent b s).clips = s.clips ∧ (berthAbsentEvent b s).mixer = s.mixer ∧
    (berthAbsentEvent b s).emergency = s.emergency ∧ (berthAbsentEvent b s).clock = s.clock ∧
    (berthAbsentEvent b s).wake = s.wake ∧ (berthAbsentEvent b s).timer = s.timer ∧
    (berthAbsentEvent b s).lanes = s.lanes ∧ (berthAbsentEvent b s).test = s.test ∧
    (berthAbsentEvent b s).counters = s.counters ∧ (berthAbsentEvent b s).orderCount = s.orderCount ∧
    (berthAbsentEvent b s).pending = s.pending := by
  unfold berthAbsentEvent; split <;> simp

@[simp] theorem fieldAcceptedEvent_keeps (b : Berth) (f : StatusField) (s : State) :
    (fieldAcceptedEvent b f s).settings = s.settings ∧ (fieldAcceptedEvent b f s).routes = s.routes ∧
    (fieldAcceptedEvent b f s).programmes = s.programmes ∧ (fieldAcceptedEvent b f s).clips = s.clips ∧
    (fieldAcceptedEvent b f s).mixer = s.mixer ∧ (fieldAcceptedEvent b f s).emergency = s.emergency ∧
    (fieldAcceptedEvent b f s).clock = s.clock ∧ (fieldAcceptedEvent b f s).timer = s.timer ∧
    (fieldAcceptedEvent b f s).lanes = s.lanes ∧ (fieldAcceptedEvent b f s).test = s.test ∧
    (fieldAcceptedEvent b f s).counters = s.counters ∧ (fieldAcceptedEvent b f s).orderCount = s.orderCount ∧
    (fieldAcceptedEvent b f s).pending = s.pending := by
  unfold fieldAcceptedEvent; dsimp only; split <;> simp

@[simp] theorem autoSnapshotEvent_keeps (s : State) :
    (autoSnapshotEvent s).settings = s.settings ∧ (autoSnapshotEvent s).routes = s.routes ∧
    (autoSnapshotEvent s).programmes = s.programmes ∧ (autoSnapshotEvent s).voice = s.voice ∧
    (autoSnapshotEvent s).clips = s.clips ∧ (autoSnapshotEvent s).mixer = s.mixer ∧
    (autoSnapshotEvent s).emergency = s.emergency ∧ (autoSnapshotEvent s).clock = s.clock ∧
    (autoSnapshotEvent s).wake = s.wake ∧ (autoSnapshotEvent s).timer = s.timer ∧
    (autoSnapshotEvent s).lanes = s.lanes ∧ (autoSnapshotEvent s).berths = s.berths ∧
    (autoSnapshotEvent s).test = s.test ∧ (autoSnapshotEvent s).link = s.link ∧
    (autoSnapshotEvent s).orderCount = s.orderCount ∧ (autoSnapshotEvent s).pending = s.pending := by
  unfold autoSnapshotEvent; split <;> simp

/-! ## The requests -/

@[simp] theorem handleSettingSet_keeps (n : Byte) (value : BitVec 16) (s : State) :
    ((handleSettingSet n value s).1).routes = s.routes ∧
    ((handleSettingSet n value s).1).programmes = s.programmes ∧ ((handleSettingSet n value s).1).clips = s.clips ∧
    ((handleSettingSet n value s).1).mixer = s.mixer ∧ ((handleSettingSet n value s).1).emergency = s.emergency ∧
    ((handleSettingSet n value s).1).wake = s.wake ∧ ((handleSettingSet n value s).1).timer = s.timer ∧
    ((handleSettingSet n value s).1).lanes = s.lanes ∧ ((handleSettingSet n value s).1).berths = s.berths ∧
    ((handleSettingSet n value s).1).test = s.test ∧ ((handleSettingSet n value s).1).link = s.link ∧
    ((handleSettingSet n value s).1).orderCount = s.orderCount ∧
    ((handleSettingSet n value s).1).pending = s.pending := by
  unfold handleSettingSet; split <;> simp

@[simp] theorem handleCurveSet_keeps (values : List (BitVec 16)) (s : State) :
    ((handleCurveSet values s).1).settings = s.settings ∧ ((handleCurveSet values s).1).routes = s.routes ∧
    ((handleCurveSet values s).1).programmes = s.programmes ∧ ((handleCurveSet values s).1).voice = s.voice ∧
    ((handleCurveSet values s).1).clips = s.clips ∧ ((handleCurveSet values s).1).emergency = s.emergency ∧
    ((handleCurveSet values s).1).clock = s.clock ∧ ((handleCurveSet values s).1).wake = s.wake ∧
    ((handleCurveSet values s).1).timer = s.timer ∧ ((handleCurveSet values s).1).lanes = s.lanes ∧
    ((handleCurveSet values s).1).berths = s.berths ∧ ((handleCurveSet values s).1).test = s.test ∧
    ((handleCurveSet values s).1).counters = s.counters ∧ ((handleCurveSet values s).1).link = s.link ∧
    ((handleCurveSet values s).1).orderCount = s.orderCount ∧ ((handleCurveSet values s).1).pending = s.pending := by
  simp [handleCurveSet]

@[simp] theorem handleRouteSet_keeps (set : BerthSet) (p l c cd cap sp now : Byte) (s : State) :
    ((handleRouteSet set p l c cd cap sp now s).1).settings = s.settings ∧
    ((handleRouteSet set p l c cd cap sp now s).1).programmes = s.programmes ∧
    ((handleRouteSet set p l c cd cap sp now s).1).voice = s.voice ∧
    ((handleRouteSet set p l c cd cap sp now s).1).clips = s.clips ∧
    ((handleRouteSet set p l c cd cap sp now s).1).mixer = s.mixer ∧
    ((handleRouteSet set p l c cd cap sp now s).1).emergency = s.emergency ∧
    ((handleRouteSet set p l c cd cap sp now s).1).clock = s.clock ∧
    ((handleRouteSet set p l c cd cap sp now s).1).wake = s.wake ∧
    ((handleRouteSet set p l c cd cap sp now s).1).timer = s.timer ∧
    ((handleRouteSet set p l c cd cap sp now s).1).lanes = s.lanes ∧
    ((handleRouteSet set p l c cd cap sp now s).1).berths = s.berths ∧
    ((handleRouteSet set p l c cd cap sp now s).1).test = s.test ∧
    ((handleRouteSet set p l c cd cap sp now s).1).counters = s.counters ∧
    ((handleRouteSet set p l c cd cap sp now s).1).link = s.link ∧
    ((handleRouteSet set p l c cd cap sp now s).1).orderCount = s.orderCount ∧
    ((handleRouteSet set p l c cd cap sp now s).1).pending = s.pending := by
  unfold handleRouteSet
  split
  · split <;> simp [stage]
  · simp

@[simp] theorem handleBerthStatus_keeps (b : Byte) (s : State) :
    ((handleBerthStatus b s).1).settings = s.settings ∧ ((handleBerthStatus b s).1).routes = s.routes ∧
    ((handleBerthStatus b s).1).programmes = s.programmes ∧ ((handleBerthStatus b s).1).voice = s.voice ∧
    ((handleBerthStatus b s).1).clips = s.clips ∧ ((handleBerthStatus b s).1).mixer = s.mixer ∧
    ((handleBerthStatus b s).1).emergency = s.emergency ∧ ((handleBerthStatus b s).1).clock = s.clock ∧
    ((handleBerthStatus b s).1).wake = s.wake ∧ ((handleBerthStatus b s).1).timer = s.timer ∧
    ((handleBerthStatus b s).1).lanes = s.lanes ∧ ((handleBerthStatus b s).1).test = s.test ∧
    ((handleBerthStatus b s).1).counters = s.counters ∧ ((handleBerthStatus b s).1).link = s.link ∧
    ((handleBerthStatus b s).1).orderCount = s.orderCount ∧ ((handleBerthStatus b s).1).pending = s.pending := by
  unfold handleBerthStatus; split <;> simp

@[simp] theorem handleProgrammeSet_keeps (p n : Byte) (s : State) :
    ((handleProgrammeSet p n s).1).settings = s.settings ∧ ((handleProgrammeSet p n s).1).routes = s.routes ∧
    ((handleProgrammeSet p n s).1).voice = s.voice ∧ ((handleProgrammeSet p n s).1).clips = s.clips ∧
    ((handleProgrammeSet p n s).1).mixer = s.mixer ∧ ((handleProgrammeSet p n s).1).emergency = s.emergency ∧
    ((handleProgrammeSet p n s).1).clock = s.clock ∧ ((handleProgrammeSet p n s).1).wake = s.wake ∧
    ((handleProgrammeSet p n s).1).timer = s.timer ∧ ((handleProgrammeSet p n s).1).lanes = s.lanes ∧
    ((handleProgrammeSet p n s).1).berths = s.berths ∧ ((handleProgrammeSet p n s).1).test = s.test ∧
    ((handleProgrammeSet p n s).1).counters = s.counters ∧ ((handleProgrammeSet p n s).1).link = s.link ∧
    ((handleProgrammeSet p n s).1).orderCount = s.orderCount ∧ ((handleProgrammeSet p n s).1).pending = s.pending := by
  unfold handleProgrammeSet
  split
  · simp
  · split <;> simp

@[simp] theorem handleProgrammeStatus_keeps (p : Byte) (s : State) :
    ((handleProgrammeStatus p s).1).settings = s.settings ∧ ((handleProgrammeStatus p s).1).routes = s.routes ∧
    ((handleProgrammeStatus p s).1).voice = s.voice ∧ ((handleProgrammeStatus p s).1).clips = s.clips ∧
    ((handleProgrammeStatus p s).1).mixer = s.mixer ∧ ((handleProgrammeStatus p s).1).emergency = s.emergency ∧
    ((handleProgrammeStatus p s).1).clock = s.clock ∧ ((handleProgrammeStatus p s).1).wake = s.wake ∧
    ((handleProgrammeStatus p s).1).timer = s.timer ∧ ((handleProgrammeStatus p s).1).lanes = s.lanes ∧
    ((handleProgrammeStatus p s).1).berths = s.berths ∧ ((handleProgrammeStatus p s).1).test = s.test ∧
    ((handleProgrammeStatus p s).1).counters = s.counters ∧ ((handleProgrammeStatus p s).1).link = s.link ∧
    ((handleProgrammeStatus p s).1).orderCount = s.orderCount ∧ ((handleProgrammeStatus p s).1).pending = s.pending := by
  unfold handleProgrammeStatus; split <;> simp

@[simp] theorem handleReferenceSet_keeps (r : Byte) (s : State) :
    ((handleReferenceSet r s).1).settings = s.settings ∧ ((handleReferenceSet r s).1).routes = s.routes ∧
    ((handleReferenceSet r s).1).programmes = s.programmes ∧ ((handleReferenceSet r s).1).voice = s.voice ∧
    ((handleReferenceSet r s).1).clips = s.clips ∧ ((handleReferenceSet r s).1).mixer = s.mixer ∧
    ((handleReferenceSet r s).1).emergency = s.emergency ∧ ((handleReferenceSet r s).1).clock = s.clock ∧
    ((handleReferenceSet r s).1).wake = s.wake ∧ ((handleReferenceSet r s).1).lanes = s.lanes ∧
    ((handleReferenceSet r s).1).berths = s.berths ∧ ((handleReferenceSet r s).1).test = s.test ∧
    ((handleReferenceSet r s).1).counters = s.counters ∧ ((handleReferenceSet r s).1).link = s.link ∧
    ((handleReferenceSet r s).1).orderCount = s.orderCount ∧ ((handleReferenceSet r s).1).pending = s.pending := by
  unfold handleReferenceSet
  split
  · simp
  · split <;> simp

@[simp] theorem handleAnnounce_keeps (id cls origin clip : Byte) (set : BerthSet) (n card : Byte) (s : State) :
    ((handleAnnounce id cls origin clip set n card s).1).settings = s.settings ∧
    ((handleAnnounce id cls origin clip set n card s).1).routes = s.routes ∧
    ((handleAnnounce id cls origin clip set n card s).1).programmes = s.programmes ∧
    ((handleAnnounce id cls origin clip set n card s).1).clips = s.clips ∧
    ((handleAnnounce id cls origin clip set n card s).1).mixer = s.mixer ∧
    ((handleAnnounce id cls origin clip set n card s).1).emergency = s.emergency ∧
    ((handleAnnounce id cls origin clip set n card s).1).clock = s.clock ∧
    ((handleAnnounce id cls origin clip set n card s).1).wake = s.wake ∧
    ((handleAnnounce id cls origin clip set n card s).1).timer = s.timer ∧
    ((handleAnnounce id cls origin clip set n card s).1).lanes = s.lanes ∧
    ((handleAnnounce id cls origin clip set n card s).1).berths = s.berths ∧
    ((handleAnnounce id cls origin clip set n card s).1).test = s.test ∧
    ((handleAnnounce id cls origin clip set n card s).1).counters = s.counters ∧
    ((handleAnnounce id cls origin clip set n card s).1).orderCount = s.orderCount ∧
    ((handleAnnounce id cls origin clip set n card s).1).pending = s.pending := by
  unfold handleAnnounce
  split
  · simp
  · split
    · split
      · simp
      · split
        · simp
        · split
          · simp
          · dsimp only; split <;> simp
    · simp

@[simp] theorem handleAnnEnd_keeps (id : Byte) (s : State) :
    ((handleAnnEnd id s).1).settings = s.settings ∧ ((handleAnnEnd id s).1).routes = s.routes ∧
    ((handleAnnEnd id s).1).programmes = s.programmes ∧ ((handleAnnEnd id s).1).clips = s.clips ∧
    ((handleAnnEnd id s).1).mixer = s.mixer ∧ ((handleAnnEnd id s).1).emergency = s.emergency ∧
    ((handleAnnEnd id s).1).clock = s.clock ∧ ((handleAnnEnd id s).1).wake = s.wake ∧
    ((handleAnnEnd id s).1).timer = s.timer ∧ ((handleAnnEnd id s).1).lanes = s.lanes ∧
    ((handleAnnEnd id s).1).berths = s.berths ∧ ((handleAnnEnd id s).1).test = s.test ∧
    ((handleAnnEnd id s).1).counters = s.counters ∧ ((handleAnnEnd id s).1).link = s.link ∧
    ((handleAnnEnd id s).1).orderCount = s.orderCount ∧ ((handleAnnEnd id s).1).pending = s.pending := by
  unfold handleAnnEnd
  split
  · split
    · split <;> simp
    · split <;> simp
  · split <;> simp

@[simp] theorem withdrawOther_keeps (id : Byte) (s : State) :
    ((withdrawOther id s).1).settings = s.settings ∧ ((withdrawOther id s).1).routes = s.routes ∧
    ((withdrawOther id s).1).programmes = s.programmes ∧ ((withdrawOther id s).1).clips = s.clips ∧
    ((withdrawOther id s).1).mixer = s.mixer ∧ ((withdrawOther id s).1).emergency = s.emergency ∧
    ((withdrawOther id s).1).clock = s.clock ∧ ((withdrawOther id s).1).wake = s.wake ∧
    ((withdrawOther id s).1).timer = s.timer ∧ ((withdrawOther id s).1).lanes = s.lanes ∧
    ((withdrawOther id s).1).berths = s.berths ∧ ((withdrawOther id s).1).test = s.test ∧
    ((withdrawOther id s).1).counters = s.counters ∧ ((withdrawOther id s).1).orderCount = s.orderCount ∧
    ((withdrawOther id s).1).pending = s.pending := by
  unfold withdrawOther
  split
  · split <;> simp
  · split <;> simp

@[simp] theorem handleAnnWithdraw_keeps (id : Byte) (s : State) :
    ((handleAnnWithdraw id s).1).settings = s.settings ∧ ((handleAnnWithdraw id s).1).routes = s.routes ∧
    ((handleAnnWithdraw id s).1).programmes = s.programmes ∧ ((handleAnnWithdraw id s).1).clips = s.clips ∧
    ((handleAnnWithdraw id s).1).mixer = s.mixer ∧ ((handleAnnWithdraw id s).1).emergency = s.emergency ∧
    ((handleAnnWithdraw id s).1).clock = s.clock ∧ ((handleAnnWithdraw id s).1).wake = s.wake ∧
    ((handleAnnWithdraw id s).1).timer = s.timer ∧ ((handleAnnWithdraw id s).1).lanes = s.lanes ∧
    ((handleAnnWithdraw id s).1).berths = s.berths ∧ ((handleAnnWithdraw id s).1).test = s.test ∧
    ((handleAnnWithdraw id s).1).counters = s.counters ∧ ((handleAnnWithdraw id s).1).orderCount = s.orderCount ∧
    ((handleAnnWithdraw id s).1).pending = s.pending := by
  unfold handleAnnWithdraw
  split
  · split
    · split <;> simp
    · simp
  · simp

@[simp] theorem handleClipOpen_keeps (clip variant : Byte) (count : BitVec 32) (s : State) :
    ((handleClipOpen clip variant count s).1).settings = s.settings ∧
    ((handleClipOpen clip variant count s).1).routes = s.routes ∧
    ((handleClipOpen clip variant count s).1).programmes = s.programmes ∧
    ((handleClipOpen clip variant count s).1).voice = s.voice ∧
    ((handleClipOpen clip variant count s).1).mixer = s.mixer ∧
    ((handleClipOpen clip variant count s).1).emergency = s.emergency ∧
    ((handleClipOpen clip variant count s).1).clock = s.clock ∧
    ((handleClipOpen clip variant count s).1).wake = s.wake ∧
    ((handleClipOpen clip variant count s).1).timer = s.timer ∧
    ((handleClipOpen clip variant count s).1).lanes = s.lanes ∧
    ((handleClipOpen clip variant count s).1).berths = s.berths ∧
    ((handleClipOpen clip variant count s).1).test = s.test ∧
    ((handleClipOpen clip variant count s).1).counters = s.counters ∧
    ((handleClipOpen clip variant count s).1).link = s.link ∧
    ((handleClipOpen clip variant count s).1).orderCount = s.orderCount ∧
    ((handleClipOpen clip variant count s).1).pending = s.pending := by
  unfold handleClipOpen
  split
  · split
    · simp
    · split
      · simp
      · dsimp only; split <;> simp
  · simp

@[simp] theorem handleClipData_keeps (clip variant : Byte) (offset : BitVec 32) (count : BitVec 16) (samples : List Sample) (s : State) :
    ((handleClipData clip variant offset count samples s).1).settings = s.settings ∧
    ((handleClipData clip variant offset count samples s).1).routes = s.routes ∧
    ((handleClipData clip variant offset count samples s).1).programmes = s.programmes ∧
    ((handleClipData clip variant offset count samples s).1).voice = s.voice ∧
    ((handleClipData clip variant offset count samples s).1).mixer = s.mixer ∧
    ((handleClipData clip variant offset count samples s).1).emergency = s.emergency ∧
    ((handleClipData clip variant offset count samples s).1).clock = s.clock ∧
    ((handleClipData clip variant offset count samples s).1).wake = s.wake ∧
    ((handleClipData clip variant offset count samples s).1).timer = s.timer ∧
    ((handleClipData clip variant offset count samples s).1).lanes = s.lanes ∧
    ((handleClipData clip variant offset count samples s).1).berths = s.berths ∧
    ((handleClipData clip variant offset count samples s).1).test = s.test ∧
    ((handleClipData clip variant offset count samples s).1).counters = s.counters ∧
    ((handleClipData clip variant offset count samples s).1).link = s.link ∧
    ((handleClipData clip variant offset count samples s).1).orderCount = s.orderCount ∧
    ((handleClipData clip variant offset count samples s).1).pending = s.pending := by
  unfold handleClipData
  split
  · split
    · simp
    · dsimp only
      split
      · simp
      · split
        · simp
        · split <;> simp
  · simp

@[simp] theorem handleClipAbort_keeps (clip variant : Byte) (s : State) :
    ((handleClipAbort clip variant s).1).settings = s.settings ∧
    ((handleClipAbort clip variant s).1).routes = s.routes ∧
    ((handleClipAbort clip variant s).1).programmes = s.programmes ∧
    ((handleClipAbort clip variant s).1).voice = s.voice ∧ ((handleClipAbort clip variant s).1).mixer = s.mixer ∧
    ((handleClipAbort clip variant s).1).emergency = s.emergency ∧
    ((handleClipAbort clip variant s).1).clock = s.clock ∧ ((handleClipAbort clip variant s).1).wake = s.wake ∧
    ((handleClipAbort clip variant s).1).timer = s.timer ∧ ((handleClipAbort clip variant s).1).lanes = s.lanes ∧
    ((handleClipAbort clip variant s).1).berths = s.berths ∧ ((handleClipAbort clip variant s).1).test = s.test ∧
    ((handleClipAbort clip variant s).1).counters = s.counters ∧
    ((handleClipAbort clip variant s).1).link = s.link ∧
    ((handleClipAbort clip variant s).1).orderCount = s.orderCount ∧
    ((handleClipAbort clip variant s).1).pending = s.pending := by
  unfold handleClipAbort
  split
  · split <;> simp
  · simp

@[simp] theorem handleClipDelete_keeps (clip : Byte) (s : State) :
    ((handleClipDelete clip s).1).settings = s.settings ∧ ((handleClipDelete clip s).1).routes = s.routes ∧
    ((handleClipDelete clip s).1).programmes = s.programmes ∧ ((handleClipDelete clip s).1).voice = s.voice ∧
    ((handleClipDelete clip s).1).mixer = s.mixer ∧ ((handleClipDelete clip s).1).emergency = s.emergency ∧
    ((handleClipDelete clip s).1).clock = s.clock ∧ ((handleClipDelete clip s).1).wake = s.wake ∧
    ((handleClipDelete clip s).1).timer = s.timer ∧ ((handleClipDelete clip s).1).lanes = s.lanes ∧
    ((handleClipDelete clip s).1).berths = s.berths ∧ ((handleClipDelete clip s).1).test = s.test ∧
    ((handleClipDelete clip s).1).counters = s.counters ∧ ((handleClipDelete clip s).1).link = s.link ∧
    ((handleClipDelete clip s).1).orderCount = s.orderCount ∧ ((handleClipDelete clip s).1).pending = s.pending := by
  unfold handleClipDelete
  split
  · simp
  · split <;> simp

@[simp] theorem handleClockSet_keeps (day hour minute second : Byte) (s : State) :
    ((handleClockSet day hour minute second s).1).settings = s.settings ∧
    ((handleClockSet day hour minute second s).1).routes = s.routes ∧
    ((handleClockSet day hour minute second s).1).programmes = s.programmes ∧
    ((handleClockSet day hour minute second s).1).voice = s.voice ∧
    ((handleClockSet day hour minute second s).1).clips = s.clips ∧
    ((handleClockSet day hour minute second s).1).mixer = s.mixer ∧
    ((handleClockSet day hour minute second s).1).emergency = s.emergency ∧
    ((handleClockSet day hour minute second s).1).timer = s.timer ∧
    ((handleClockSet day hour minute second s).1).lanes = s.lanes ∧
    ((handleClockSet day hour minute second s).1).berths = s.berths ∧
    ((handleClockSet day hour minute second s).1).test = s.test ∧
    ((handleClockSet day hour minute second s).1).counters = s.counters ∧
    ((handleClockSet day hour minute second s).1).orderCount = s.orderCount ∧
    ((handleClockSet day hour minute second s).1).pending = s.pending := by
  unfold handleClockSet; split <;> simp

@[simp] theorem handleStopSet_keeps (stop : Byte) (eta : BitVec 16) (clip : Byte) (s : State) :
    ((handleStopSet stop eta clip s).1).settings = s.settings ∧
    ((handleStopSet stop eta clip s).1).routes = s.routes ∧
    ((handleStopSet stop eta clip s).1).programmes = s.programmes ∧
    ((handleStopSet stop eta clip s).1).voice = s.voice ∧ ((handleStopSet stop eta clip s).1).clips = s.clips ∧
    ((handleStopSet stop eta clip s).1).mixer = s.mixer ∧
    ((handleStopSet stop eta clip s).1).emergency = s.emergency ∧
    ((handleStopSet stop eta clip s).1).clock = s.clock ∧ ((handleStopSet stop eta clip s).1).timer = s.timer ∧
    ((handleStopSet stop eta clip s).1).lanes = s.lanes ∧ ((handleStopSet stop eta clip s).1).berths = s.berths ∧
    ((handleStopSet stop eta clip s).1).test = s.test ∧ ((handleStopSet stop eta clip s).1).counters = s.counters ∧
    ((handleStopSet stop eta clip s).1).orderCount = s.orderCount ∧
    ((handleStopSet stop eta clip s).1).pending = s.pending := by
  unfold handleStopSet
  split
  · split <;> simp
  · simp

@[simp] theorem handleStopPassed_keeps (stop : Byte) (s : State) :
    ((handleStopPassed stop s).1).settings = s.settings ∧ ((handleStopPassed stop s).1).routes = s.routes ∧
    ((handleStopPassed stop s).1).programmes = s.programmes ∧ ((handleStopPassed stop s).1).voice = s.voice ∧
    ((handleStopPassed stop s).1).clips = s.clips ∧ ((handleStopPassed stop s).1).mixer = s.mixer ∧
    ((handleStopPassed stop s).1).emergency = s.emergency ∧ ((handleStopPassed stop s).1).clock = s.clock ∧
    ((handleStopPassed stop s).1).timer = s.timer ∧ ((handleStopPassed stop s).1).lanes = s.lanes ∧
    ((handleStopPassed stop s).1).berths = s.berths ∧ ((handleStopPassed stop s).1).test = s.test ∧
    ((handleStopPassed stop s).1).counters = s.counters ∧ ((handleStopPassed stop s).1).orderCount = s.orderCount ∧
    ((handleStopPassed stop s).1).pending = s.pending := by
  unfold handleStopPassed
  split
  · simp
  · split <;> simp

@[simp] theorem handleStopClear_keeps (stop : Byte) (s : State) :
    ((handleStopClear stop s).1).settings = s.settings ∧ ((handleStopClear stop s).1).routes = s.routes ∧
    ((handleStopClear stop s).1).programmes = s.programmes ∧ ((handleStopClear stop s).1).voice = s.voice ∧
    ((handleStopClear stop s).1).clips = s.clips ∧ ((handleStopClear stop s).1).mixer = s.mixer ∧
    ((handleStopClear stop s).1).emergency = s.emergency ∧ ((handleStopClear stop s).1).clock = s.clock ∧
    ((handleStopClear stop s).1).timer = s.timer ∧ ((handleStopClear stop s).1).lanes = s.lanes ∧
    ((handleStopClear stop s).1).berths = s.berths ∧ ((handleStopClear stop s).1).test = s.test ∧
    ((handleStopClear stop s).1).counters = s.counters ∧ ((handleStopClear stop s).1).link = s.link ∧
    ((handleStopClear stop s).1).orderCount = s.orderCount ∧ ((handleStopClear stop s).1).pending = s.pending := by
  unfold handleStopClear
  split
  · simp
  · split <;> simp

@[simp] theorem handleWakeSet_keeps (berth stop lead : Byte) (s : State) :
    ((handleWakeSet berth stop lead s).1).settings = s.settings ∧
    ((handleWakeSet berth stop lead s).1).routes = s.routes ∧
    ((handleWakeSet berth stop lead s).1).programmes = s.programmes ∧
    ((handleWakeSet berth stop lead s).1).voice = s.voice ∧ ((handleWakeSet berth stop lead s).1).clips = s.clips ∧
    ((handleWakeSet berth stop lead s).1).mixer = s.mixer ∧
    ((handleWakeSet berth stop lead s).1).emergency = s.emergency ∧
    ((handleWakeSet berth stop lead s).1).clock = s.clock ∧ ((handleWakeSet berth stop lead s).1).timer = s.timer ∧
    ((handleWakeSet berth stop lead s).1).lanes = s.lanes ∧
    ((handleWakeSet berth stop lead s).1).berths = s.berths ∧ ((handleWakeSet berth stop lead s).1).test = s.test ∧
    ((handleWakeSet berth stop lead s).1).counters = s.counters ∧
    ((handleWakeSet berth stop lead s).1).orderCount = s.orderCount ∧
    ((handleWakeSet berth stop lead s).1).pending = s.pending := by
  unfold handleWakeSet
  split
  · split <;> simp
  · simp

@[simp] theorem handleWakeCancel_keeps (berth : Byte) (s : State) :
    ((handleWakeCancel berth s).1).settings = s.settings ∧ ((handleWakeCancel berth s).1).routes = s.routes ∧
    ((handleWakeCancel berth s).1).programmes = s.programmes ∧ ((handleWakeCancel berth s).1).voice = s.voice ∧
    ((handleWakeCancel berth s).1).clips = s.clips ∧ ((handleWakeCancel berth s).1).mixer = s.mixer ∧
    ((handleWakeCancel berth s).1).emergency = s.emergency ∧ ((handleWakeCancel berth s).1).clock = s.clock ∧
    ((handleWakeCancel berth s).1).timer = s.timer ∧ ((handleWakeCancel berth s).1).lanes = s.lanes ∧
    ((handleWakeCancel berth s).1).berths = s.berths ∧ ((handleWakeCancel berth s).1).test = s.test ∧
    ((handleWakeCancel berth s).1).counters = s.counters ∧ ((handleWakeCancel berth s).1).link = s.link ∧
    ((handleWakeCancel berth s).1).orderCount = s.orderCount ∧ ((handleWakeCancel berth s).1).pending = s.pending := by
  unfold handleWakeCancel
  split
  · simp
  · split <;> simp

@[simp] theorem handleEmergencyClear_keeps (s : State) :
    ((handleEmergencyClear s).1).settings = s.settings ∧ ((handleEmergencyClear s).1).routes = s.routes ∧
    ((handleEmergencyClear s).1).programmes = s.programmes ∧ ((handleEmergencyClear s).1).voice = s.voice ∧
    ((handleEmergencyClear s).1).clips = s.clips ∧ ((handleEmergencyClear s).1).mixer = s.mixer ∧
    ((handleEmergencyClear s).1).clock = s.clock ∧ ((handleEmergencyClear s).1).wake = s.wake ∧
    ((handleEmergencyClear s).1).timer = s.timer ∧ ((handleEmergencyClear s).1).lanes = s.lanes ∧
    ((handleEmergencyClear s).1).berths = s.berths ∧ ((handleEmergencyClear s).1).test = s.test ∧
    ((handleEmergencyClear s).1).counters = s.counters ∧ ((handleEmergencyClear s).1).link = s.link ∧
    ((handleEmergencyClear s).1).orderCount = s.orderCount ∧ ((handleEmergencyClear s).1).pending = s.pending := by
  unfold handleEmergencyClear
  split
  · simp
  · split <;> simp

@[simp] theorem handleLaneSet_keeps (lane enable : Byte) (s : State) :
    ((handleLaneSet lane enable s).1).settings = s.settings ∧ ((handleLaneSet lane enable s).1).routes = s.routes ∧
    ((handleLaneSet lane enable s).1).programmes = s.programmes ∧
    ((handleLaneSet lane enable s).1).voice = s.voice ∧ ((handleLaneSet lane enable s).1).clips = s.clips ∧
    ((handleLaneSet lane enable s).1).mixer = s.mixer ∧ ((handleLaneSet lane enable s).1).emergency = s.emergency ∧
    ((handleLaneSet lane enable s).1).clock = s.clock ∧ ((handleLaneSet lane enable s).1).wake = s.wake ∧
    ((handleLaneSet lane enable s).1).timer = s.timer ∧ ((handleLaneSet lane enable s).1).test = s.test ∧
    ((handleLaneSet lane enable s).1).counters = s.counters ∧
    ((handleLaneSet lane enable s).1).orderCount = s.orderCount ∧
    ((handleLaneSet lane enable s).1).pending = s.pending := by
  unfold handleLaneSet
  split
  · split <;> simp [laneNotice]
  · split <;> simp [laneNotice]
  · simp

@[simp] theorem handleLaneReset_keeps (lane : Byte) (s : State) :
    ((handleLaneReset lane s).1).settings = s.settings ∧ ((handleLaneReset lane s).1).routes = s.routes ∧
    ((handleLaneReset lane s).1).programmes = s.programmes ∧ ((handleLaneReset lane s).1).voice = s.voice ∧
    ((handleLaneReset lane s).1).clips = s.clips ∧ ((handleLaneReset lane s).1).mixer = s.mixer ∧
    ((handleLaneReset lane s).1).emergency = s.emergency ∧ ((handleLaneReset lane s).1).clock = s.clock ∧
    ((handleLaneReset lane s).1).wake = s.wake ∧ ((handleLaneReset lane s).1).timer = s.timer ∧
    ((handleLaneReset lane s).1).test = s.test ∧ ((handleLaneReset lane s).1).counters = s.counters ∧
    ((handleLaneReset lane s).1).orderCount = s.orderCount ∧ ((handleLaneReset lane s).1).pending = s.pending := by
  unfold handleLaneReset
  split
  · simp
  · dsimp only; split <;> simp [laneNotice, resetLaneBerths]

@[simp] theorem handleLaneTestStart_keeps (set : BerthSet) (s : State) :
    ((handleLaneTestStart set s).1).settings = s.settings ∧ ((handleLaneTestStart set s).1).routes = s.routes ∧
    ((handleLaneTestStart set s).1).programmes = s.programmes ∧ ((handleLaneTestStart set s).1).voice = s.voice ∧
    ((handleLaneTestStart set s).1).clips = s.clips ∧ ((handleLaneTestStart set s).1).mixer = s.mixer ∧
    ((handleLaneTestStart set s).1).emergency = s.emergency ∧ ((handleLaneTestStart set s).1).clock = s.clock ∧
    ((handleLaneTestStart set s).1).wake = s.wake ∧ ((handleLaneTestStart set s).1).timer = s.timer ∧
    ((handleLaneTestStart set s).1).lanes = s.lanes ∧ ((handleLaneTestStart set s).1).berths = s.berths ∧
    ((handleLaneTestStart set s).1).counters = s.counters ∧ ((handleLaneTestStart set s).1).link = s.link ∧
    ((handleLaneTestStart set s).1).orderCount = s.orderCount ∧ ((handleLaneTestStart set s).1).pending = s.pending := by
  unfold handleLaneTestStart
  split
  · simp
  · split
    · simp
    · dsimp only; split <;> simp

@[simp] theorem handleLaneTestStop_keeps (s : State) :
    ((handleLaneTestStop s).1).settings = s.settings ∧ ((handleLaneTestStop s).1).routes = s.routes ∧
    ((handleLaneTestStop s).1).programmes = s.programmes ∧ ((handleLaneTestStop s).1).voice = s.voice ∧
    ((handleLaneTestStop s).1).clips = s.clips ∧ ((handleLaneTestStop s).1).mixer = s.mixer ∧
    ((handleLaneTestStop s).1).emergency = s.emergency ∧ ((handleLaneTestStop s).1).clock = s.clock ∧
    ((handleLaneTestStop s).1).wake = s.wake ∧ ((handleLaneTestStop s).1).timer = s.timer ∧
    ((handleLaneTestStop s).1).lanes = s.lanes ∧ ((handleLaneTestStop s).1).berths = s.berths ∧
    ((handleLaneTestStop s).1).counters = s.counters ∧ ((handleLaneTestStop s).1).link = s.link ∧
    ((handleLaneTestStop s).1).orderCount = s.orderCount ∧ ((handleLaneTestStop s).1).pending = s.pending := by
  unfold handleLaneTestStop; split <;> simp

@[simp] theorem handleCountersSnapshot_keeps (s : State) :
    ((handleCountersSnapshot s).1).settings = s.settings ∧ ((handleCountersSnapshot s).1).routes = s.routes ∧
    ((handleCountersSnapshot s).1).programmes = s.programmes ∧ ((handleCountersSnapshot s).1).voice = s.voice ∧
    ((handleCountersSnapshot s).1).clips = s.clips ∧ ((handleCountersSnapshot s).1).mixer = s.mixer ∧
    ((handleCountersSnapshot s).1).emergency = s.emergency ∧ ((handleCountersSnapshot s).1).clock = s.clock ∧
    ((handleCountersSnapshot s).1).wake = s.wake ∧ ((handleCountersSnapshot s).1).timer = s.timer ∧
    ((handleCountersSnapshot s).1).lanes = s.lanes ∧ ((handleCountersSnapshot s).1).berths = s.berths ∧
    ((handleCountersSnapshot s).1).test = s.test ∧ ((handleCountersSnapshot s).1).link = s.link ∧
    ((handleCountersSnapshot s).1).orderCount = s.orderCount ∧ ((handleCountersSnapshot s).1).pending = s.pending := by
  simp [handleCountersSnapshot]

/-! ## The requests that only report -/

@[simp] theorem handleSettingGet_state (n : Byte) (s : State) : (handleSettingGet n s).1 = s := by
  unfold handleSettingGet; split <;> rfl

@[simp] theorem handleCurveGet_state (s : State) : (handleCurveGet s).1 = s := rfl

@[simp] theorem handleTake_state (s : State) : (handleTake s).1 = s := rfl

@[simp] theorem handleRouteGet_state (b : Byte) (s : State) : (handleRouteGet b s).1 = s := by
  unfold handleRouteGet; split <;> rfl

@[simp] theorem handleAnnList_state (s : State) : (handleAnnList s).1 = s := rfl

@[simp] theorem handleClipInfo_state (c : Byte) (s : State) : (handleClipInfo c s).1 = s := by
  unfold handleClipInfo; split <;> rfl

@[simp] theorem handleClockGet_state (s : State) : (handleClockGet s).1 = s := rfl

@[simp] theorem handleStopList_state (s : State) : (handleStopList s).1 = s := rfl

@[simp] theorem handleWakeList_state (s : State) : (handleWakeList s).1 = s := rfl

@[simp] theorem handleCountersRead_state (g f n : Byte) (s : State) : (handleCountersRead g f n s).1 = s := by
  unfold handleCountersRead
  split
  · rfl
  · split <;> rfl

@[simp] theorem handleStatus_state (s : State) : (handleStatus s).1 = s := rfl

@[simp] theorem handleRestart_state (s : State) : (handleRestart s).1 = s := rfl

end Sys2Proof.Machine
end

section
/-! The clip store's invariants: which acts reach it, the canonical form of its memory and the partition of its
blocks (R67, R69, R70, R76, R78). -/

namespace Sys2Proof.Machine

/-! ## The acts that reach the clip store -/

theorem powerOn_clips (s : State) : (powerOn s).clips = { State.reset.clips with mem := s.clips.mem } := by
  rw [powerOn]

theorem restartPart_clips (s : State) : (restartPart s).clips = s.clips.restart := by
  rw [restartPart]

/-- A predicate of the clip store that its four requests and the two resets keep is kept by every act. -/
theorem keeps_of_clips {Q : Clips → Prop}
    (opened : ∀ clip variant count s, Q s.clips → Q (handleClipOpen clip variant count s).1.clips)
    (stored : ∀ clip variant offset count samples s, Q s.clips →
      Q (handleClipData clip variant offset count samples s).1.clips)
    (aborted : ∀ clip variant s, Q s.clips → Q (handleClipAbort clip variant s).1.clips)
    (deleted : ∀ clip s, Q s.clips → Q (handleClipDelete clip s).1.clips)
    (reset : ∀ c, Q c → Q { State.reset.clips with mem := c.mem })
    (restarted : ∀ c, Q c → Q c.restart) : Keeps fun s => Q s.clips where
  passOn := by
    intro r p s h
    cases r
    case clipOpen => exact opened _ _ _ s h
    case clipData => exact stored _ _ _ _ _ s h
    case clipAbort => exact aborted _ _ s h
    case clipDelete => exact deleted _ s h
    all_goals simpa [passOn, replied] using h
  powerOn s h := by rw [powerOn_clips]; exact reset s.clips h
  restart s h := by rw [restartPart_clips]; exact restarted s.clips h
  link := by simp
  raised := by simp
  frame := by simp
  strobe := by simp
  referenceLost := by simp
  guardExpired := by simp
  stall := by simp
  cell := by simp
  audio := by simp
  mic := by simp
  repeatEnd := by simp
  gapEnd := by simp
  liveTimeout := by simp
  peakPeriod := by simp
  alarm := by simp
  second := by simp
  minute := by simp
  ringLimit := by simp
  trained := by simp
  syncLoss := by simp
  trailer := by simp
  slot := by simp
  present := by simp
  absent := by simp
  field := by simp
  snapshot := by simp

/-! ## What a request of the clip store does to it -/

/-- CLIP_OPEN refuses, or gives an EMPTY variant the lowest free blocks (R72). -/
theorem handleClipOpen_clips (clip variant : Byte) (count : BitVec 32) (s : State) :
    (handleClipOpen clip variant count s).1.clips = s.clips ∨
      ∃ c v n, 1 ≤ n ∧ n ≤ 1048576 ∧ (s.clips.variant c v).state = .empty ∧ blocksFor n ≤ s.clips.free.length ∧
        (handleClipOpen clip variant count s).1.clips =
          { (s.clips.setVariant c v
              { state := .loading, declared := n, chain := s.clips.free.take (blocksFor n), written := 0 }) with
            free := s.clips.free.drop (blocksFor n) } := by
  unfold handleClipOpen
  split
  case h_2 => exact .inl rfl
  case h_1 c v _ _ =>
    split
    · exact .inl rfl
    · split
      · exact .inl rfl
      · dsimp only
        split
        · exact .inl rfl
        · rename_i inRange notEmpty room
          exact .inr ⟨c, v, count.toNat, by omega, by omega, not_not.mp notEmpty, by omega, rfl⟩

/-- CLIP_DATA refuses, or writes samples of a LOADING variant that its declared count has room for (R74, R75). -/
theorem handleClipData_clips (clip variant : Byte) (offset : BitVec 32) (count : BitVec 16) (samples : List Sample)
    (s : State) :
    (handleClipData clip variant offset count samples s).1.clips = s.clips ∨
      ∃ c v n, 1 ≤ n ∧ (s.clips.variant c v).state = .loading ∧
        (s.clips.variant c v).written + n ≤ (s.clips.variant c v).declared ∧
        (handleClipData clip variant offset count samples s).1.clips =
          { (s.clips.setVariant c v { s.clips.variant c v with
              written := (s.clips.variant c v).written + n,
              state := if (s.clips.variant c v).written + n = (s.clips.variant c v).declared then .ready
                       else .loading }) with
            mem := writeSamples s.clips.mem (s.clips.variant c v).chain (s.clips.variant c v).written samples } := by
  unfold handleClipData
  split
  case h_2 => exact .inl rfl
  case h_1 c v _ _ =>
    split
    · exact .inl rfl
    · dsimp only
      split
      · exact .inl rfl
      · split
        · exact .inl rfl
        · split
          · exact .inl rfl
          · rename_i inRange loading inOrder room
            exact .inr ⟨c, v, count.toNat, by omega, not_not.mp loading, by omega, rfl⟩

/-- CLIP_ABORT refuses, or frees a LOADING variant (R77). -/
theorem handleClipAbort_clips (clip variant : Byte) (s : State) :
    (handleClipAbort clip variant s).1.clips = s.clips ∨
      ∃ c v, (s.clips.variant c v).state = .loading ∧
        (handleClipAbort clip variant s).1.clips = s.clips.freeVariant c v := by
  unfold handleClipAbort
  split
  case h_2 => exact .inl rfl
  case h_1 c v _ _ =>
    split
    · rename_i loading
      dsimp only
      exact .inr ⟨c, v, loading, rfl⟩
    · exact .inl rfl

/-- CLIP_DELETE refuses, or frees a clip that no record holds (R78). -/
theorem handleClipDelete_clips (clip : Byte) (s : State) :
    (handleClipDelete clip s).1.clips = s.clips ∨
      ∃ c, clipHeld s.voice c = false ∧ (handleClipDelete clip s).1.clips = s.clips.freeClip c := by
  unfold handleClipDelete
  split
  case h_1 => exact .inl rfl
  case h_2 c _ =>
    split
    · exact .inl rfl
    · rename_i unheld
      dsimp only
      exact .inr ⟨c, Bool.eq_false_iff.mpr unheld, rfl⟩

/-! ## The memory -/

theorem keeps_memorySound : Keeps MemorySound := by
  refine keeps_of_clips (Q := fun c => Memory.wf c.mem = true) ?opened ?stored ?aborted ?deleted ?reset ?restarted
  case opened =>
    intro clip variant count s h
    rcases handleClipOpen_clips clip variant count s with same | ⟨_, _, _, _, _, _, _, e⟩
    · rwa [same]
    · rwa [e]
  case stored =>
    intro clip variant offset count samples s h
    rcases handleClipData_clips clip variant offset count samples s with same | ⟨_, _, _, _, _, _, e⟩
    · rwa [same]
    · rw [e]; exact writeSamples_wf _ _ _ _ h
  case aborted =>
    intro clip variant s h
    rcases handleClipAbort_clips clip variant s with same | ⟨_, _, _, e⟩
    · rwa [same]
    · rwa [e, freeVariant_mem]
  case deleted =>
    intro clip s h
    rcases handleClipDelete_clips clip s with same | ⟨c, _, e⟩
    · rwa [same]
    · rwa [e, (freeClip_spec s.clips c).2.2]
  case reset => intro c h; dsimp only; exact h
  case restarted =>
    intro c h
    rwa [(restart_spec c).2.2]

/-- Settles O54: the memory is written by CLIP_DATA alone, sample by sample. -/
theorem clipMemoryStaysCanonical : Obligations.ClipMemoryStaysCanonical :=
  fun _ _ h e => keeps_memorySound.step (fun _ _ h => h) h e

/-! ## The blocks -/

theorem Variant.sound_empty : Variant.Sound {} := ⟨rfl, rfl, rfl⟩

/-- Freeing some variants, whose blocks return to the free set, keeps the partition (R76). -/
theorem Clips.PoolSound.freed {c d : Clips} (h : c.PoolSound) (gone : ClipNo → Fin 4 → Prop)
    (away : ∀ k v, gone k v → d.variant k v = {}) (stay : ∀ k v, ¬ gone k v → d.variant k v = c.variant k v)
    (free : ∀ n, n ∈ d.free ↔ n ∈ c.free ∨ ∃ k v, gone k v ∧ n ∈ (c.variant k v).chain)
    (ordered : d.free.Pairwise (· < ·)) : d.PoolSound := by
  have chain_of {k v b} (hb : b ∈ (d.variant k v).chain) : ¬ gone k v ∧ b ∈ (c.variant k v).chain := by
    by_cases g : gone k v
    · simp [away k v g] at hb
    · exact ⟨g, by rwa [stay k v g] at hb⟩
  refine ⟨fun k v => ?_, ordered, fun b hb => ?_, fun k v => ⟨?_, fun b hb => ?_⟩, fun k v k' v' b hb hb' => ?_,
    fun b hb => ?_⟩
  · by_cases g : gone k v
    · rw [away k v g]; exact Variant.sound_empty
    · rw [stay k v g]; exact h.variant k v
  · rcases (free b).mp hb with inFree | ⟨k, v, _, inChain⟩
    · exact h.range b inFree
    · exact ((h.chains k v).2 b inChain).1
  · by_cases g : gone k v
    · simp [away k v g]
    · rw [stay k v g]; exact (h.chains k v).1
  · obtain ⟨still, inChain⟩ := chain_of hb
    refine ⟨((h.chains k v).2 b inChain).1, fun inFree => ?_⟩
    rcases (free b).mp inFree with wasFree | ⟨k', v', g, inChain'⟩
    · exact ((h.chains k v).2 b inChain).2 wasFree
    · obtain ⟨rfl, rfl⟩ := h.disjoint _ _ _ _ _ inChain inChain'
      exact still g
  · exact h.disjoint _ _ _ _ _ (chain_of hb).2 (chain_of hb').2
  · rcases h.whole b hb with inFree | ⟨k, v, inChain⟩
    · exact .inl ((free b).mpr (.inl inFree))
    · by_cases g : gone k v
      · exact .inl ((free b).mpr (.inr ⟨k, v, g, inChain⟩))
      · exact .inr ⟨k, v, by rwa [stay k v g]⟩

theorem freeWhere_ordered (p : Variant → Bool) (l : List (ClipNo × Fin 4)) {c : Clips}
    (h : c.free.Pairwise (· < ·)) : (freeWhere p l c).free.Pairwise (· < ·) := by
  induction l generalizing c with
  | nil => exact h
  | cons x l ih =>
    refine ih ?_
    dsimp only
    split
    · exact insertBlocks_ordered _ h
    · exact h

/-- A variant that takes other values but keeps its chain keeps the partition. -/
theorem Clips.PoolSound.changed {c d : Clips} (h : c.PoolSound) {k : ClipNo} {v : Fin 4} {x : Variant}
    (sound : x.Sound) (chain : x.chain = (c.variant k v).chain) (free : d.free = c.free)
    (variant : ∀ k' v', d.variant k' v' = if k = k' ∧ v = v' then x else c.variant k' v') : d.PoolSound := by
  have same (k' v') : (d.variant k' v').chain = (c.variant k' v').chain := by
    rw [variant]
    split
    · rename_i at_kv
      obtain ⟨rfl, rfl⟩ := at_kv
      exact chain
    · rfl
  refine ⟨fun k' v' => ?_, ?_, ?_, ?_, ?_, ?_⟩
  · rw [variant]
    split
    · exact sound
    · exact h.variant k' v'
  · rw [free]; exact h.ordered
  · rw [free]; exact h.range
  · simp only [same, free]; exact h.chains
  · simp only [same]; exact h.disjoint
  · simp only [same, free]; exact h.whole

/-- A fresh variant that takes the first blocks of the free set keeps the partition (R72). -/
theorem Clips.PoolSound.opened {c : Clips} (h : c.PoolSound) {k : ClipNo} {v : Fin 4} {n : Nat} (low : 1 ≤ n)
    (high : n ≤ 1048576) (empty : (c.variant k v).state = .empty) (room : blocksFor n ≤ c.free.length) :
    Clips.PoolSound { (c.setVariant k v
        { state := .loading, declared := n, chain := c.free.take (blocksFor n), written := 0 }) with
      free := c.free.drop (blocksFor n) } := by
  generalize hd : ({ (c.setVariant k v
        { state := .loading, declared := n, chain := c.free.take (blocksFor n), written := 0 }) with
      free := c.free.drop (blocksFor n) } : Clips) = d
  have free : d.free = c.free.drop (blocksFor n) := by rw [← hd]
  have here : d.variant k v =
      { state := .loading, declared := n, chain := c.free.take (blocksFor n), written := 0 } := by
    rw [← hd]; exact (setVariant_variant c k v _ k v).trans (if_pos ⟨rfl, rfl⟩)
  have there (k' v') (ne : ¬ (k = k' ∧ v = v')) : d.variant k' v' = c.variant k' v' := by
    rw [← hd]; exact (setVariant_variant c k v _ k' v').trans (if_neg ne)
  have wasEmpty : (c.variant k v).chain = [] := by
    have sound := h.variant k v
    rw [Variant.Sound, empty] at sound
    exact sound.2.1
  have nodup : c.free.Nodup := h.ordered.imp Nat.ne_of_lt
  have split_free : c.free = c.free.take (blocksFor n) ++ c.free.drop (blocksFor n) := (List.take_append_drop _ _).symm
  have apart : ∀ b ∈ c.free.take (blocksFor n), b ∉ c.free.drop (blocksFor n) := by
    intro b taken dropped
    rw [split_free] at nodup
    exact (List.nodup_append.mp nodup).2.2 b taken b dropped rfl
  refine ⟨fun k' v' => ?_, ?_, fun b hb => ?_, fun k' v' => ?_, fun k1 v1 k2 v2 b hb1 hb2 => ?_, fun b hb => ?_⟩
  · by_cases at_kv : k = k' ∧ v = v'
    · obtain ⟨rfl, rfl⟩ := at_kv
      rw [here]
      exact ⟨low, high, by simpa using room, low⟩
    · rw [there _ _ at_kv]; exact h.variant k' v'
  · rw [free]; exact h.ordered.drop
  · rw [free] at hb; exact h.range b (List.mem_of_mem_drop hb)
  · by_cases at_kv : k = k' ∧ v = v'
    · obtain ⟨rfl, rfl⟩ := at_kv
      rw [here, free]
      exact ⟨nodup.sublist (List.take_sublist _ _), fun b hb => ⟨h.range b (List.mem_of_mem_take hb), apart b hb⟩⟩
    · rw [there _ _ at_kv, free]
      exact ⟨(h.chains k' v').1, fun b hb => ⟨((h.chains k' v').2 b hb).1,
        fun dropped => ((h.chains k' v').2 b hb).2 (List.mem_of_mem_drop dropped)⟩⟩
  · have owner {k' v'} (hb : b ∈ (d.variant k' v').chain) :
        (k = k' ∧ v = v' ∧ b ∈ c.free) ∨ (¬ (k = k' ∧ v = v') ∧ b ∈ (c.variant k' v').chain) := by
      by_cases at_kv : k = k' ∧ v = v'
      · obtain ⟨rfl, rfl⟩ := at_kv
        rw [here] at hb
        exact .inl ⟨rfl, rfl, List.mem_of_mem_take hb⟩
      · rw [there _ _ at_kv] at hb
        exact .inr ⟨at_kv, hb⟩
    rcases owner hb1 with ⟨rfl, rfl, inFree⟩ | ⟨_, inChain1⟩
    · rcases owner hb2 with ⟨rfl, rfl, _⟩ | ⟨_, inChain2⟩
      · exact ⟨rfl, rfl⟩
      · exact absurd inFree ((h.chains _ _).2 b inChain2).2
    · rcases owner hb2 with ⟨rfl, rfl, inFree⟩ | ⟨_, inChain2⟩
      · exact absurd inFree ((h.chains _ _).2 b inChain1).2
      · exact h.disjoint _ _ _ _ _ inChain1 inChain2
  · rcases h.whole b hb with inFree | ⟨k', v', inChain⟩
    · rw [split_free, List.mem_append] at inFree
      rcases inFree with taken | dropped
      · exact .inr ⟨k, v, by rw [here]; exact taken⟩
      · exact .inl (by rw [free]; exact dropped)
    · have elsewhere : ¬ (k = k' ∧ v = v') := by
        rintro ⟨rfl, rfl⟩
        simp [wasEmpty] at inChain
      exact .inr ⟨k', v', by rwa [there _ _ elsewhere]⟩

/-- With no chain and every block free, the partition holds whatever the memory. -/
theorem poolSound_fresh (mem : List Host.Cell) : Clips.PoolSound { State.reset.clips with mem := mem } := by
  have variant (k v) : Clips.variant { State.reset.clips with mem := mem } k v = {} := by
    simp [Clips.variant, State.reset]
  have free : ({ State.reset.clips with mem := mem } : Clips).free = List.range 4096 := by simp [State.reset]
  refine ⟨fun k v => ?_, ?_, fun b hb => ?_, fun k v => ?_, fun k v k' v' b hb => ?_, fun b hb => ?_⟩
  · rw [variant]; exact Variant.sound_empty
  · rw [free]; exact List.pairwise_lt_range
  · rw [free] at hb; exact List.mem_range.mp hb
  · rw [variant]; simp
  · simp [variant] at hb
  · rw [free]; exact .inl (List.mem_range.mpr hb)

/-- Samples that a LOADING variant has room for leave its fields in accord with its state (R74, R75). -/
theorem Variant.Sound.written {x : Variant} (h : x.Sound) (loading : x.state = .loading) {n : Nat}
    (room : x.written + n ≤ x.declared) :
    Variant.Sound { x with
      written := x.written + n, state := if x.written + n = x.declared then .ready else .loading } := by
  rw [Variant.Sound, loading] at h
  obtain ⟨low, high, length, _⟩ := h
  by_cases full : x.written + n = x.declared
  · simp only [Variant.Sound, if_pos full]
    exact ⟨low, high, length, full⟩
  · simp only [Variant.Sound, if_neg full]
    exact ⟨low, high, length, by omega⟩

theorem Clips.PoolSound.freeVariant {c : Clips} (h : c.PoolSound) (k : ClipNo) (v : Fin 4) :
    (c.freeVariant k v).PoolSound := by
  refine h.freed (fun k' v' => k = k' ∧ v = v') (fun k' v' g => ?_) (fun k' v' g => ?_) (fun n => ?_)
    (insertBlocks_ordered _ h.ordered)
  · rw [freeVariant_variant, if_pos g]
  · rw [freeVariant_variant, if_neg g]
  · rw [mem_freeVariant_free]
    refine or_congr_right ⟨fun hn => ⟨k, v, ⟨rfl, rfl⟩, hn⟩, ?_⟩
    rintro ⟨_, _, ⟨rfl, rfl⟩, hn⟩
    exact hn

theorem Clips.PoolSound.freeClip {c : Clips} (h : c.PoolSound) (k : ClipNo) : (c.freeClip k).PoolSound := by
  obtain ⟨variant, free, _⟩ := freeClip_spec c k
  refine h.freed (fun k' v => k' = k ∧ (c.variant k' v).state ≠ .empty) (fun k' v g => ?_) (fun k' v g => ?_)
    (fun n => ?_) ?_
  · rw [variant, if_pos g]
  · rw [variant, if_neg g]
  · rw [free]
    refine or_congr_right ⟨fun ⟨v, used, hn⟩ => ⟨k, v, ⟨rfl, used⟩, hn⟩, ?_⟩
    rintro ⟨_, v, ⟨rfl, used⟩, hn⟩
    exact ⟨v, used, hn⟩
  · rw [Clips.freeClip, freeClip_run]
    exact freeWhere_ordered _ _ h.ordered

theorem Clips.PoolSound.restart {c : Clips} (h : c.PoolSound) : c.restart.PoolSound := by
  obtain ⟨variant, free, _⟩ := restart_spec c
  refine h.freed (fun k v => (c.variant k v).state = .loading) (fun k v g => ?_) (fun k v g => ?_) free ?_
  · rw [variant, if_pos g]
  · rw [variant, if_neg g]
  · rw [Clips.restart, restart_run]
    exact freeWhere_ordered _ _ h.ordered

theorem keeps_poolSound : Keeps fun s => s.clips.PoolSound := by
  refine keeps_of_clips ?opened ?stored ?aborted ?deleted ?reset ?restarted
  case opened =>
    intro clip variant count s h
    rcases handleClipOpen_clips clip variant count s with same | ⟨_, _, _, low, high, empty, room, e⟩
    · rwa [same]
    · rw [e]; exact h.opened low high empty room
  case stored =>
    intro clip variant offset count samples s h
    rcases handleClipData_clips clip variant offset count samples s with same | ⟨c, v, n, _, loading, room, e⟩
    · rwa [same]
    · rw [e]; exact h.changed ((h.variant c v).written loading room) rfl rfl (setVariant_variant _ _ _ _)
  case aborted =>
    intro clip variant s h
    rcases handleClipAbort_clips clip variant s with same | ⟨c, v, _, e⟩
    · rwa [same]
    · rw [e]; exact h.freeVariant c v
  case deleted =>
    intro clip s h
    rcases handleClipDelete_clips clip s with same | ⟨c, _, e⟩
    · rwa [same]
    · rw [e]; exact h.freeClip c
  case reset => exact fun c _ => poolSound_fresh c.mem
  case restarted => exact fun _ h => h.restart

/-- Settles O55: a chain is taken from the free set by CLIP_OPEN and returns there when its variant is freed. -/
theorem blockPoolStaysWhole : Obligations.BlockPoolStaysWhole :=
  fun _ _ h e => keeps_poolSound.step (fun _ _ h => h) h e

end Sys2Proof.Machine
end

section
/-! The journey clock stays in its ranges (R112 to R116, R121): what a second tick, an evaluation of the night and
CLOCK_SET make of it. -/

namespace Sys2Proof.Machine

/-! ## The clock's own steps -/

theorem atLimit_iff (c : Clock) :
    c.atLimit = true ↔ c.day = 7 ∧ c.hour = 23 ∧ c.minute = 59 ∧ c.second = 59 := by
  simp [Clock.atLimit, and_assoc]

/-- The fields of a clock short of its limit advance within their ranges (R115). -/
theorem Clock.Sound.advance {c : Clock} (h : c.Sound) (free : c.held = false) (short : c.atLimit = false) :
    c.advance.Sound := by
  obtain ⟨day, hour, minute, second, frames, _, unset⟩ := h
  have notLast : ¬ (c.day = 7 ∧ c.hour = 23 ∧ c.minute = 59 ∧ c.second = 59) := by
    rw [← atLimit_iff, short]; exact Bool.false_ne_true
  have notHeld {p : Prop} : c.held = true → p := by simp [free]
  unfold Clock.advance
  split
  · exact ⟨day, hour, minute, by dsimp only; omega, frames, notHeld, unset⟩
  · split
    · exact ⟨day, hour, by dsimp only; omega, by simp, frames, notHeld, unset⟩
    · split
      · exact ⟨day, by dsimp only; omega, by simp, by simp, frames, notHeld, unset⟩
      · exact ⟨by dsimp only; omega, by simp, by simp, by simp, frames, notHeld, unset⟩

/-- The hold acts at the limit of a SET clock (R116). -/
theorem Clock.Sound.hold {c : Clock} (h : c.Sound) (set : c.isSet = true) (last : c.atLimit = true) :
    Clock.Sound { c with held := true } := by
  obtain ⟨day, hour, minute, second, frames, _, _⟩ := h
  exact ⟨day, hour, minute, second, frames, fun _ => last, fun unset => by simp [set] at unset⟩

theorem Clock.Sound.countFrames {c : Clock} (h : c.Sound) {n : Nat} (bound : n ≤ 999) :
    Clock.Sound { c with frameCount := n } := by
  obtain ⟨day, hour, minute, second, _, held, unset⟩ := h
  exact ⟨day, hour, minute, second, bound, held, unset⟩

/-- The night is in force on a SET clock alone (R121). -/
theorem Clock.Sound.night {c : Clock} (h : c.Sound) (window : Bool) :
    Clock.Sound { c with night := c.isSet && window } := by
  obtain ⟨day, hour, minute, second, frames, held, unset⟩ := h
  exact ⟨day, hour, minute, second, frames, held, fun u => ⟨(unset u).1, by simp [show c.isSet = false from u]⟩⟩

/-! ## The ticks -/

theorem evaluateNight_sound {s : State} (h : s.clock.Sound) : (evaluateNight s).clock.Sound := h.night _

theorem clockSecond_sound {s : State} (h : s.clock.Sound) (set : s.clock.isSet = true) :
    (clockSecond s).clock.Sound := by
  unfold clockSecond
  split
  · exact h
  · rename_i free
    split
    · rename_i last
      exact h.hold set last
    · rename_i short
      exact h.advance (Bool.eq_false_iff.mpr free) (Bool.eq_false_iff.mpr short)

theorem secondTick_sound {s : State} (h : s.clock.Sound) (set : s.clock.isSet = true) :
    (secondTick s).clock.Sound := by
  have ticked : (clockSecond (setClock (fun c => { c with frameCount := 0 }) s)).clock.Sound :=
    clockSecond_sound (h.countFrames (Nat.zero_le _)) set
  unfold secondTick
  dsimp only
  split
  · simpa [minuteTick] using evaluateNight_sound (by simpa using ticked)
  · simpa using ticked

theorem clockFrame_sound {s : State} (h : s.clock.Sound) : (clockFrame s).clock.Sound := by
  unfold clockFrame
  split
  · rename_i set
    split
    · exact secondTick_sound h set
    · exact h.countFrames (by omega)
  · exact h

/-! ## CLOCK_SET and SETTING_SET -/

theorem handleClockSet_sound {s : State} (h : s.clock.Sound) (day hour minute second : Byte) :
    (handleClockSet day hour minute second s).1.clock.Sound := by
  unfold handleClockSet
  split
  · exact h
  · rename_i inRange
    simp only [not_or, Nat.not_lt] at inRange
    obtain ⟨hday, hhour, hminute, hsecond⟩ := inRange
    simp only [evaluateWake_keeps]
    refine evaluateNight_sound ⟨hday, hhour, hminute, hsecond, Nat.zero_le _, ?_, ?_⟩ <;> simp

theorem settingEffects_sound {s : State} (h : s.clock.Sound) (i : Fin 17) (old : Settings) :
    (settingEffects i old s).clock.Sound := by
  unfold settingEffects
  split
  · exact evaluateNight_sound h
  · exact evaluateNight_sound h
  all_goals simpa using h

theorem handleSettingSet_sound {s : State} (h : s.clock.Sound) (n : Byte) (value : BitVec 16) :
    (handleSettingSet n value s).1.clock.Sound := by
  unfold handleSettingSet
  split
  · exact h
  · exact settingEffects_sound (by exact h) _ _

/-! ## The invariant -/

theorem clockSound_reset : Clock.Sound {} := by simp [Clock.Sound]

theorem keeps_clockSound : Keeps fun s => s.clock.Sound := by
  constructor
  case passOn =>
    intro r p s h
    cases r
    case clockSet => exact handleClockSet_sound h _ _ _ _
    case settingSet => exact handleSettingSet_sound h _ _
    all_goals simpa [passOn, replied] using h
  case frame =>
    intro line strobe s h
    simpa [frameWork] using clockFrame_sound (by simpa using h)
  case powerOn => exact fun _ _ => clockSound_reset
  case restart => exact fun _ h => h.night _
  case second =>
    intro s h
    unfold secondTickEvent
    split
    · rename_i set
      exact secondTick_sound h set
    · exact h
  case minute =>
    intro s h
    unfold minuteTickEvent
    split
    · simpa [minuteTick] using evaluateNight_sound h
    · exact h
  all_goals simp

/-- The greatest journey minute is that of day 7 23:59 (R113). -/
theorem Clock.Sound.journeyMinute_le {c : Clock} (h : c.Sound) : c.journeyMinute ≤ 11519 := by
  obtain ⟨day, hour, minute, _⟩ := h
  unfold Clock.journeyMinute
  omega

/-- Settles O58: the fields carry within their ranges, and the hold stops them at the limit. -/
theorem clockStaysInRange : Obligations.ClockStaysInRange := fun _ _ h e =>
  have sound := keeps_clockSound.step (fun _ _ h => h) h e
  ⟨sound, sound.journeyMinute_le⟩

end Sys2Proof.Machine
end

section
/-! Every setting and every counter stays in its range (R168 to R171, R185): which counters each block raises, and
what a raise, a snapshot and the auto period make of the bank. -/

namespace Sys2Proof.Machine

/-- A property that each act keeps is kept by acts one after the other. -/
theorem foldl_preserves {α : Type} {P : State → Prop} {f : State → α → State} (h : ∀ s x, P s → P (f s x))
    (l : List α) {s : State} (hs : P s) : P (l.foldl f s) := by
  induction l generalizing s with
  | nil => exact hs
  | cons x l ih => exact ih (h s x hs)

/-! ## The counters that each block raises -/

/-- The counter bank with one live counter raised (R168). -/
def Counters.raised (c : Counter) (n : Nat) (k : Counters) : Counters :=
  { k with live := amend k.live (counterIndex c) fun v => saturate v n }

theorem raise_bank (c : Counter) (n : Nat) (s : State) :
    (raise c n s).counters = s.counters.raised c n := rfl

section
variable {Q : Counters → Prop} {s : State}

theorem stall_counters {p : ProgrammeNo} (stalls : ∀ k, Q k → Q (k.raised (.stalls p) 1)) (h : Q s.counters) :
    Q (stall p s).counters := by
  rw [stall, queueNotice_counters, raise_bank]
  exact stalls _ h

/-- The programme input unit raises STALLS and AUDIO_GAP alone (R27, R28). -/
theorem programmeFrame_counters (stalls : ∀ p k, Q k → Q (k.raised (.stalls p) 1))
    (gaps : ∀ p k, Q k → Q (k.raised (.audioGap p) 1)) (h : Q s.counters) : Q (programmeFrame s).counters := by
  refine foldl_preserves (P := fun s => Q s.counters) (fun s p hs => ?_) _ h
  have counted : Q (countInterval p (setProgramme p Programme.advance s)).counters := by
    unfold countInterval
    dsimp only
    split
    · split
      · exact stall_counters (stalls p) hs
      · exact hs
    · exact hs
  unfold programmeFrameOf countGap
  dsimp only
  split
  · exact gaps p _ counted
  · exact counted

theorem testErrors_counters {b : Berth} {n : Nat} (errors : ∀ k, Q k → Q (k.raised (.testErr b) n))
    (h : Q s.counters) : Q (testErrors b n s).counters := by
  unfold testErrors
  split
  · exact errors _ h
  · exact h

theorem laneLoses_counters {l : LaneNo} (losses : ∀ k, Q k → Q (k.raised (.syncLoss l) 1)) (h : Q s.counters) :
    Q (laneLoses l s).counters := by
  simp only [laneLoses, laneNotice, laneAbsent_keeps, queueNotice_counters]
  exact losses _ h

theorem judgeLane_counters {l : LaneNo} (losses : ∀ k, Q k → Q (k.raised (.syncLoss l) 1)) (h : Q s.counters) :
    Q (judgeLane l s).counters := by
  unfold judgeLane
  dsimp only
  split
  · exact h
  · split
    · split
      · simpa using h
      · exact h
    · exact h
  · split
    · exact h
    · split
      · exact laneLoses_counters losses h
      · exact h

/-- The closing of a lane frame raises TEST_ERR and SYNC_LOSS alone (R153, R166). -/
theorem closeFrame_counters (errors : ∀ b n k, Q k → Q (k.raised (.testErr b) n))
    (losses : ∀ l k, Q k → Q (k.raised (.syncLoss l) 1)) (h : Q s.counters) : Q (closeFrame s).counters := by
  have checked : Q (closeChecker (closeSlots s)).counters := by
    refine foldl_preserves (P := fun s => Q s.counters) (fun s b hs => ?_) _ (by simpa using h)
    split
    · exact hs
    · exact testErrors_counters (errors b 48) hs
  have judged : Q (closeLanes (closeChecker (closeSlots s))).counters := by
    unfold closeLanes
    exact foldl_preserves (P := fun s => Q s.counters) (fun s l hs => judgeLane_counters (losses l) hs) _ checked
  simpa [closeFrame] using judged

/-- The mixer raises SAT alone (R101). -/
theorem mixerAccount_counters (marks : ∀ b k, Q k → Q (k.raised (.sat b) 1)) (h : Q s.counters) :
    Q (mixerAccount s).counters := by
  rw [mixerAccount, setMixer_counters, accountMarks]
  refine foldl_preserves (P := fun s => Q s.counters) (fun s b hs => ?_) _ h
  unfold accountMark
  split
  · exact marks b _ hs
  · exact hs

theorem snapshotAt_counters {due : Bool} (taken : due = true → ∀ k, Q k → Q k.take) (i : Nat)
    (h : Q s.counters) : Q (snapshotAt due i s).counters := by
  unfold snapshotAt
  dsimp only
  split
  · rename_i isDue
    split
    · exact taken isDue _ h
    · exact h
  · exact h

end

/-- What the counter bank's own work finds at a lane frame start. -/
def beforeBank (line : Line) (strobe : Bool) (s : State) : State :=
  sendFrames (mixerOutputs (handOutWords (mixerGains
    (snapshotAt (snapshotDue s) 3 (mixerAccount (beforeMixer line strobe s))))))

theorem frameWork_bank (line : Line) (strobe : Bool) (s : State) :
    frameWork line strobe s = closeBank (snapshotDue s) (beforeBank line strobe s) := frameWork_eq line strobe s

/-- A property of the bank that the raises of a lane frame start keep, and its snapshot when one is due, holds when
the bank does its own work. -/
theorem beforeBank_counters {Q : Counters → Prop} {s : State} (line : Line) (strobe : Bool)
    (raised : ∀ c n k, (∀ b, c ≠ .slotErr b) → (∀ p, c ≠ .cellDrop p) → c ≠ .badFrames → c ≠ .droppedRequests →
      Q k → Q (k.raised c n))
    (taken : snapshotDue s = true → ∀ k, Q k → Q k.take) (h : Q s.counters) :
    Q (beforeBank line strobe s).counters := by
  have programmes : Q (programmeFrame (snapshotAt (snapshotDue s) 0 (timerFrame strobe s))).counters :=
    programmeFrame_counters (fun _ _ => raised _ _ _ (by simp) (by simp) (by simp) (by simp))
      (fun _ _ => raised _ _ _ (by simp) (by simp) (by simp) (by simp))
      (snapshotAt_counters taken 0 (by simpa using h))
  have emergency : Q (emergencyFrame line (snapshotAt (snapshotDue s) 1
      (programmeFrame (snapshotAt (snapshotDue s) 0 (timerFrame strobe s))))).counters := by
    simpa only [emergencyFrame_keeps] using snapshotAt_counters taken 1 programmes
  have closed := snapshotAt_counters taken 2 (closeFrame_counters
    (fun _ _ _ => raised _ _ _ (by simp) (by simp) (by simp) (by simp))
    (fun _ _ => raised _ _ _ (by simp) (by simp) (by simp) (by simp)) emergency)
  have mixerFinds : Q (beforeMixer line strobe s).counters := by
    simpa only [beforeMixer, beforeVoice, beforeClock, chimeFrame_keeps, routeFrame_keeps, voiceFrame_keeps,
      clockFrame_keeps, testFrame_keeps] using closed
  have mixed := snapshotAt_counters taken 3 (mixerAccount_counters
    (fun _ _ => raised _ _ _ (by simp) (by simp) (by simp) (by simp)) mixerFinds)
  simpa only [beforeBank, sendFrames_keeps, mixerOutputs_keeps, handOutWords_keeps, mixerGains_keeps] using mixed

/-! ## The bank -/

theorem Counters.Bounded.raised {k : Counters} (h : k.Bounded) (c : Counter) (n : Nat) : (k.raised c n).Bounded := by
  refine ⟨fun i => ⟨?_, (h.1 i).2⟩, h.2⟩
  rw [Counters.raised, amend_get]
  split
  · exact saturate_le _ _
  · exact (h.1 i).1

theorem Counters.Bounded.take {k : Counters} (h : k.Bounded) : k.take.Bounded :=
  ⟨fun i => ⟨by simp [Counters.take], (h.1 i).1⟩, Nat.zero_le _⟩

theorem Counters.Bounded.restartPeriod {k : Counters} (h : k.Bounded) : Counters.Bounded { k with autoFrames := 0 } :=
  ⟨h.1, Nat.zero_le _⟩

/-- While no snapshot is due, the auto period has room for the frame (R171). -/
def AutoRoom (due : Bool) (setting : Nat) (k : Counters) : Prop := due = false → setting = 1 → k.autoFrames + 1 ≤ 999

theorem autoRoom_snapshotDue (s : State) : AutoRoom (snapshotDue s) s.settings.autoSnapshot s.counters := by
  intro notDue on
  simp only [snapshotDue, on, beq_self_eq_true, Bool.true_and, decide_eq_false_iff_not] at notDue
  omega

theorem closeBank_bounded {due : Bool} {s : State} (h : s.counters.Bounded)
    (room : AutoRoom due s.settings.autoSnapshot s.counters) : (closeBank due s).counters.Bounded := by
  unfold closeBank
  split
  · exact h
  · rename_i notDue
    refine ⟨h.1, ?_⟩
    simp only [autoPeriod]
    split
    · rename_i on
      exact room (Bool.eq_false_iff.mpr notDue) on
    · exact Nat.zero_le _

theorem frameWork_bounded {s : State} (h : s.counters.Bounded) (line : Line) (strobe : Bool) :
    (frameWork line strobe s).counters.Bounded := by
  have kept := beforeBank_counters (s := s) line strobe
    (Q := fun k => k.Bounded ∧ AutoRoom (snapshotDue s) s.settings.autoSnapshot k)
    (fun c n k _ _ _ _ hk => ⟨hk.1.raised c n, hk.2⟩)
    (fun due k hk => ⟨hk.1.take, fun notDue => by simp [due] at notDue⟩) ⟨h, autoRoom_snapshotDue s⟩
  rw [frameWork_bank]
  have settings : (beforeBank line strobe s).settings = s.settings := by simp [beforeBank, beforeMixer, beforeVoice]
  exact closeBank_bounded kept.1 (by rw [settings]; exact kept.2)

/-! ## The settings -/

theorem clampSetting_inRange (i : Fin 17) (v : Nat) :
    settingRanges[i].1 ≤ clampSetting i v ∧ clampSetting i v ≤ settingRanges[i].2 := by
  have ordered : ∀ i : Fin 17, settingRanges[i].1 ≤ settingRanges[i].2 := by decide
  have := ordered i
  simp only [clampSetting, clamp]
  omega

/-- A replaced setting leaves every other one as it is: each number has a field of its own. -/
theorem Settings.get_put_other (t : Settings) {i j : Fin 17} (v : Nat) (ne : j ≠ i) : (t.put i v).get j = t.get j := by
  fin_cases i <;> fin_cases j <;> first | rfl | exact absurd rfl ne

theorem Settings.InRange.put {t : Settings} (h : t.InRange) (i : Fin 17) (v : Nat) :
    (t.put i (clampSetting i v)).InRange := by
  intro j
  by_cases same : j = i
  · subst same
    rw [Settings.get_put_same]
    exact clampSetting_inRange j v
  · rw [Settings.get_put_other t _ same]
    exact h j

theorem settings_inRange_default : Settings.InRange {} := by
  intro i
  fin_cases i <;> decide

theorem settingEffects_bounded {s : State} (h : s.counters.Bounded) (i : Fin 17) (old : Settings) :
    (settingEffects i old s).counters.Bounded := by
  unfold settingEffects
  split
  case h_4 =>
    unfold autoSnapshotChanged
    split
    · exact h
    · exact h.restartPeriod
  all_goals simpa using h

theorem handleSettingSet_bounded {s : State} (h : s.counters.Bounded) (n : Byte) (value : BitVec 16) :
    (handleSettingSet n value s).1.counters.Bounded := by
  unfold handleSettingSet
  split
  · exact h
  · exact settingEffects_bounded (by exact h) _ _

theorem handleSettingSet_inRange {s : State} (h : s.settings.InRange) (n : Byte) (value : BitVec 16) :
    (handleSettingSet n value s).1.settings.InRange := by
  unfold handleSettingSet
  split
  · exact h
  · simpa using h.put _ _

/-! ## The invariants -/

theorem keeps_settingsInRange : Keeps fun s => s.settings.InRange := by
  constructor
  case passOn =>
    intro r p s h
    cases r
    case settingSet => exact handleSettingSet_inRange h _ _
    all_goals simpa [passOn, replied] using h
  case powerOn => exact fun _ _ => settings_inRange_default
  case restart => exact fun _ _ => settings_inRange_default
  all_goals simp

theorem countersBounded_reset : Counters.Bounded {} := by simp [Counters.Bounded]

theorem keeps_countersBounded : Keeps fun s => s.counters.Bounded := by
  constructor
  case raised => exact fun c n s h => h.raised c n
  case passOn =>
    intro r p s h
    cases r
    case settingSet => exact handleSettingSet_bounded h _ _
    case countersSnapshot => exact h.take
    all_goals simpa [passOn, replied] using h
  case frame => exact fun line strobe s h => frameWork_bounded h line strobe
  case powerOn => exact fun _ _ => countersBounded_reset
  case restart => exact fun _ _ => countersBounded_reset
  case stall =>
    intro p s h
    unfold stallEvent
    split
    · exact stall_counters (fun k hk => hk.raised _ _) h
    · exact h
  case cell =>
    intro p entry video s h
    have taken (p : ProgrammeNo) (cell : VideoCell) : (takeCell p cell s).counters.Bounded := by
      unfold takeCell
      split
      · exact h
      · exact h.raised _ _
    unfold cellArrives
    split
    · exact h
    · split
      · dsimp only
        split
        · simpa using taken _ _
        · exact taken _ _
      · exact h
  case syncLoss =>
    intro l s h
    unfold laneSyncLossEvent
    split
    · exact laneLoses_counters (fun k hk => hk.raised _ _) h
    · exact h
  case slot =>
    intro b slot s h
    have errors {t : State} (n : Nat) (ht : t.counters.Bounded) : (testErrors b n t).counters.Bounded :=
      testErrors_counters (fun k hk => hk.raised _ _) ht
    unfold slotArrives
    split
    · exact h
    · dsimp only
      split
      · split
        · simpa using errors _ (by simpa using h)
        · simpa using errors _ (by simpa using h)
      · simpa using errors _ (h.raised _ _)
  case snapshot =>
    intro s h
    unfold autoSnapshotEvent
    split
    · exact h.take
    · exact h
  all_goals simp

/-- Settles O56: a setting is replaced by a clamped value, a counter is raised with saturation, and the auto period
ends at 1000. -/
theorem settingsAndCountersStayInRange : Obligations.SettingsAndCountersStayInRange := fun _ _ hs hc e =>
  ⟨keeps_settingsInRange.step (fun _ _ h => h) hs e, keeps_countersBounded.step (fun _ _ h => h) hc e⟩

end Sys2Proof.Machine
end

section
/-! The programme records, the alarm line and the first frame after a reset (R23, R28, R106 to R109, R189). -/

namespace Sys2Proof.Machine

/-! ## Entries of a table that acts change one after the other -/

/-- Acts that each change one entry of a table, each entry at most once, change every entry that is acted on. -/
theorem foldl_amend {α : Type} {n : Nat} {table : State → Vector α n} {f : State → Fin n → State}
    {g : Fin n → α → α} {I : State → Prop} (keeps : ∀ s x, I s → I (f s x))
    (acts : ∀ s x, I s → table (f s x) = amend (table s) x (g x)) {l : List (Fin n)} (nodup : l.Nodup) {s : State}
    (hs : I s) (i : Fin n) : (table (l.foldl f s))[i] = if i ∈ l then g i (table s)[i] else (table s)[i] := by
  induction l generalizing s with
  | nil => simp
  | cons x l ih =>
    obtain ⟨fresh, nodup⟩ := List.nodup_cons.mp nodup
    rw [List.foldl_cons, ih nodup (keeps s x hs), acts s x hs, amend_get]
    by_cases at_x : x = i
    · subst at_x
      simp [fresh]
    · simp [at_x, Ne.symm at_x]

/-! ## The programmes -/

/-- A programme's record once its interval has been counted: RUNNING short of the stall limit, or STALLED (R28). -/
def Programme.counted (limit : Nat) (r : Programme) : Programme :=
  if r.state = .running then
    if limit ≤ r.interval.getD 0 + 1 then { r with state := .stalled, interval := none }
    else { r with interval := some (r.interval.getD 0 + 1) }
  else r

theorem stall_programmes (p : ProgrammeNo) (s : State) :
    (stall p s).programmes =
      amend s.programmes p fun r => { r with state := .stalled, interval := none } := by
  rw [stall, queueNotice_programmes, raise_programmes, setProgramme_programmes]

theorem amend_amend {α : Type} {n : Nat} (v : Vector α n) (i : Fin n) (f g : α → α) :
    amend (amend v i f) i g = amend v i (g ∘ f) := by
  refine table_ext fun j => ?_
  simp only [amend_get]
  split <;> simp

theorem amend_congr {α : Type} {n : Nat} (v : Vector α n) (i : Fin n) {f g : α → α} (h : f v[i] = g v[i]) :
    amend v i f = amend v i g := by rw [amend, amend, h]

theorem amend_self {α : Type} {n : Nat} (v : Vector α n) (i : Fin n) {f : α → α} (h : f v[i] = v[i]) :
    amend v i f = v := by
  refine table_ext fun j => ?_
  rw [amend_get]
  split
  · rename_i at_i
    subst at_i
    exact h
  · rfl

theorem countInterval_programmes (p : ProgrammeNo) (s : State) :
    (countInterval p s).programmes = amend s.programmes p (Programme.counted s.settings.stallLimit) := by
  unfold countInterval
  dsimp only
  split
  · rename_i running
    split
    · rename_i atLimit
      rw [stall_programmes]
      exact amend_congr _ _ (by simp only [Programme.counted, if_pos running, if_pos atLimit])
    · rename_i short
      rw [setProgramme_programmes]
      exact amend_congr _ _ (by simp only [Programme.counted, if_pos running, if_neg short])
  · rename_i notRunning
    exact (amend_self _ _ (by simp only [Programme.counted, if_neg notRunning])).symm

/-- Every programme's record after the unit's work at a lane frame start (R25, R28). -/
theorem programmeFrame_programme (p : ProgrammeNo) (s : State) :
    (programmeFrame s).programmes[p] = (s.programmes[p].advance).counted s.settings.stallLimit := by
  have moved := foldl_amend (table := State.programmes) (f := fun s p => programmeFrameOf p s)
    (g := fun _ r => r.advance.counted s.settings.stallLimit) (I := fun t => t.settings = s.settings)
    (fun t p ht => by simpa using ht)
    (fun t p ht => by
      simp only [programmeFrameOf, countGap_keeps, countInterval_programmes, setProgramme_programmes,
        setProgramme_settings, ht, amend_amend]
      rfl)
    (List.nodup_finRange 6) (s := s) rfl p
  rw [programmeFrame, moved, if_pos (List.mem_finRange p)]

theorem Programme.Sound.counted {r : Programme} (h : r.Sound) {limit : Nat} (bound : limit ≤ 5000) :
    (r.counted limit).Sound := by
  obtain ⟨low, high, lowInForce, highInForce, receiving, forwarding, runs, interval⟩ := h
  unfold Programme.counted
  split
  · rename_i running
    split
    · exact ⟨low, high, lowInForce, highInForce, receiving, forwarding, by simp, by simp⟩
    · rename_i short
      refine ⟨low, high, lowInForce, highInForce, receiving, forwarding, by simp [running], ?_⟩
      rintro n ⟨rfl⟩
      omega
  · exact ⟨low, high, lowInForce, highInForce, receiving, forwarding, runs, interval⟩

theorem Programme.Sound.advance {r : Programme} (h : r.Sound) : r.advance.Sound := by
  obtain ⟨low, high, _, _, receiving, _, runs, interval⟩ := h
  exact ⟨low, high, low, high, Nat.zero_le _, receiving, runs, interval⟩

/-- A change of one programme's record that keeps it sound keeps all sound. -/
theorem programmesSound_amend {v : Vector Programme 6} (h : ∀ p : ProgrammeNo, v[p].Sound) (p : ProgrammeNo)
    {f : Programme → Programme} (hf : (f v[p]).Sound) (q : ProgrammeNo) : (amend v p f)[q].Sound := by
  rw [amend_get]
  split
  · exact hf
  · exact h q

theorem Programme.Sound.stall {r : Programme} (h : r.Sound) :
    Programme.Sound { r with state := .stalled, interval := none } := by
  obtain ⟨low, high, lowInForce, highInForce, receiving, forwarding, _, _⟩ := h
  exact ⟨low, high, lowInForce, highInForce, receiving, forwarding, by simp, by simp⟩

theorem takeCell_sound {s : State} (h : ∀ p : ProgrammeNo, s.programmes[p].Sound) (p : ProgrammeNo)
    (cell : VideoCell) (q : ProgrammeNo) : (takeCell p cell s).programmes[q].Sound := by
  unfold takeCell
  split
  · rename_i room
    refine programmesSound_amend h p ?_ q
    obtain ⟨low, high, lowInForce, highInForce, _, forwarding, runs, interval⟩ := h p
    refine ⟨low, high, lowInForce, highInForce, ?_, forwarding, runs, interval⟩
    simp only [List.length_append, List.length_singleton]
    omega
  · exact h q

theorem entryPoint_sound {s : State} (h : ∀ p : ProgrammeNo, s.programmes[p].Sound) (p : ProgrammeNo)
    (q : ProgrammeNo) : (entryPoint p s).programmes[q].Sound := by
  obtain ⟨low, high, lowInForce, highInForce, receiving, forwarding, _, _⟩ := h p
  unfold entryPoint
  dsimp only
  split
  · rename_i running
    exact programmesSound_amend h p
      ⟨low, high, lowInForce, highInForce, receiving, forwarding, by simpa [Programme.record] using running,
        by simp [Programme.record]⟩ q
  · exact programmesSound_amend h p
      ⟨low, high, lowInForce, highInForce, receiving, forwarding, by simp, by simp⟩ q

theorem cellArrives_sound {s : State} (h : ∀ p : ProgrammeNo, s.programmes[p].Sound) (programme : Byte)
    (entry : Bool) (video : List Byte) (q : ProgrammeNo) :
    (cellArrives programme entry video s).programmes[q].Sound := by
  unfold cellArrives
  split
  · exact h q
  · split
    · dsimp only
      split
      · exact entryPoint_sound (takeCell_sound h _ _) _ q
      · exact takeCell_sound h _ _ q
    · exact h q

theorem programmeSound_default : Programme.Sound {} := by simp [Programme.Sound]

theorem programmesSound_reset (p : ProgrammeNo) : (Vector.replicate 6 ({} : Programme))[p].Sound := by
  simpa using programmeSound_default

theorem handleProgrammeSet_sound {s : State} (h : ∀ p : ProgrammeNo, s.programmes[p].Sound) (programme tracks : Byte)
    (q : ProgrammeNo) : (handleProgrammeSet programme tracks s).1.programmes[q].Sound := by
  unfold handleProgrammeSet
  split
  · exact h q
  · split
    · rename_i p _ inRange
      obtain ⟨_, _, rest⟩ := h p
      exact programmesSound_amend h p ⟨inRange.1, inRange.2, rest⟩ q
    · exact h q

theorem handleProgrammeStatus_sound {s : State} (h : ∀ p : ProgrammeNo, s.programmes[p].Sound) (programme : Byte)
    (q : ProgrammeNo) : (handleProgrammeStatus programme s).1.programmes[q].Sound := by
  unfold handleProgrammeStatus
  split
  · exact h q
  · rename_i p _
    exact programmesSound_amend h p (h p) q

/-- The stall limit is at most 5000 (section 11.5). -/
theorem Settings.InRange.stallLimit_le {t : Settings} (h : t.InRange) : t.stallLimit ≤ 5000 := (h 13).2

theorem keeps_programmesSound :
    Keeps fun s => s.settings.InRange ∧ ∀ p : ProgrammeNo, s.programmes[p].Sound := by
  constructor
  case passOn =>
    intro r p s h
    refine ⟨keeps_settingsInRange.passOn r p s h.1, fun q => ?_⟩
    cases r
    case programmeSet => exact handleProgrammeSet_sound h.2 _ _ q
    case programmeStatus => exact handleProgrammeStatus_sound h.2 _ q
    all_goals simpa [passOn, replied] using h.2 q
  case frame =>
    intro line strobe s h
    refine ⟨by simpa using h.1, fun q => ?_⟩
    have moved : (frameWork line strobe s).programmes =
        (programmeFrame (snapshotAt (snapshotDue s) 0 (timerFrame strobe s))).programmes := by simp [frameWork]
    rw [moved, programmeFrame_programme]
    simpa using (h.2 q).advance.counted h.1.stallLimit_le
  case powerOn => exact fun _ _ => ⟨settings_inRange_default, programmesSound_reset⟩
  case restart => exact fun _ _ => ⟨settings_inRange_default, programmesSound_reset⟩
  case stall =>
    intro p s h
    refine ⟨by simpa using h.1, fun q => ?_⟩
    by_cases running : s.programmes[p].state = .running
    · simp only [stallEvent, if_pos running, stall_programmes]
      exact programmesSound_amend h.2 p (h.2 p).stall q
    · simpa only [stallEvent, if_neg running] using h.2 q
  case cell =>
    intro p entry video s h
    exact ⟨by simpa using h.1, cellArrives_sound h.2 _ _ _⟩
  case audio =>
    intro p n tracks whole s h
    refine ⟨by simpa using h.1, fun q => ?_⟩
    unfold audioArrives
    split
    · exact h.2 q
    · split
      · rename_i p _ _
        exact programmesSound_amend h.2 p (h.2 p) q
      · exact h.2 q
  all_goals simp +contextual

/-! ## The emergency line -/

theorem Emergency.Sound.sample {e : Emergency} (h : e.Sound) (line : Line) : (e.sample line).Sound := by
  obtain ⟨run, accepted, pending⟩ := h
  unfold Emergency.sample
  split
  · exact ⟨Nat.min_le_right _ _, accepted, pending⟩
  · exact ⟨by simp, accepted, pending⟩

theorem acceptLine_sound {s : State} (h : s.emergency.Sound) : (acceptLine s).emergency.Sound := by
  obtain ⟨run, accepted, pending⟩ := h
  unfold acceptLine
  dsimp only
  split
  · rename_i released
    exact ⟨run, fun asserted => by simp [released] at asserted, pending⟩
  · split
    · exact ⟨run, fun _ => ⟨rfl, rfl⟩, fun _ => rfl⟩
    · rename_i held
      simp only [not_or, Bool.not_eq_true, Bool.not_eq_false] at held
      exact ⟨run, fun _ => held, pending⟩

theorem carryOutClear_sound {s : State} (h : s.emergency.Sound) : (carryOutClear s).emergency.Sound := by
  unfold carryOutClear
  split
  · rename_i waits
    obtain ⟨run, accepted, pending⟩ := h
    exact ⟨run, fun asserted => by simp [(accepted asserted).2] at waits, by simp⟩
  · exact h

theorem emergencyFrame_sound {s : State} (h : s.emergency.Sound) (line : Line) :
    (emergencyFrame line s).emergency.Sound := by
  unfold emergencyFrame
  dsimp only
  split
  · exact carryOutClear_sound (acceptLine_sound (h.sample line))
  · exact carryOutClear_sound (h.sample line)

theorem handleEmergencyClear_sound {s : State} (h : s.emergency.Sound) :
    (handleEmergencyClear s).1.emergency.Sound := by
  unfold handleEmergencyClear
  split
  · exact h
  · rename_i notAsserted
    split
    · exact h
    · rename_i latched
      exact ⟨h.1, fun asserted => absurd asserted notAsserted, fun _ => by simpa using latched⟩

theorem emergencySound_default : Emergency.Sound {} := by simp [Emergency.Sound]

theorem keeps_emergencySound : Keeps fun s => s.emergency.Sound := by
  constructor
  case passOn =>
    intro r p s h
    cases r
    case emergencyClear => exact handleEmergencyClear_sound h
    all_goals simpa [passOn, replied] using h
  case frame =>
    intro line strobe s h
    simpa [frameWork] using emergencyFrame_sound (by simpa using h) line
  case powerOn => exact fun _ _ => emergencySound_default
  case restart => exact fun _ _ => emergencySound_default
  case alarm =>
    intro s h
    unfold alarmAcceptedEvent
    dsimp only
    split
    · exact emergencyFrame_sound h _
    · exact h
  all_goals simp

/-! ## The first frame after a reset -/

/-- The microphone samples taken in for the next frame (R51). -/
def collected (s : State) : List Sample × List Sample := (s.voice.collectingA, s.voice.collectingB)

section
variable (s : State)

@[simp] theorem collected_queueNotice (n : Notice) : collected (queueNotice n s) = collected s := rfl
@[simp] theorem collected_startRepeat (r : Announcement) : collected (startRepeat r s) = collected s := by
  unfold startRepeat; split <;> rfl
@[simp] theorem collected_takeChannel (r : Announcement) : collected (takeChannel r s) = collected s := rfl
@[simp] theorem collected_pushAndTake (a r : Announcement) : collected (pushAndTake a r s) = collected s := rfl
@[simp] theorem collected_joinWaiting (r : Announcement) : collected (joinWaiting r s) = collected s := rfl
@[simp] theorem collected_endActive (e : EndReason) (r : Announcement) :
    collected (endActive e r s) = collected s := rfl
@[simp] theorem collected_rearm : collected (rearm s) = collected s := by
  unfold rearm; split <;> rfl
@[simp] theorem collected_popped (rest : List Announcement) : collected (popped rest s) = collected s := by
  rw [popped, collected_rearm]; rfl
@[simp] theorem collected_stackLimitMet (r : Announcement) : collected (stackLimitMet r s) = collected s := by
  unfold stackLimitMet; split <;> rfl

@[simp] theorem collected_place (r : Announcement) : collected (place r s).1 = collected s := by
  unfold place
  split
  · rfl
  · split
    · rfl
    · split
      · split <;> simp
      · rfl

@[simp] theorem collected_preemptionCheck : collected (preemptionCheck s) = collected s := by
  unfold preemptionCheck
  split
  · rfl
  · dsimp only
    split
    · rfl
    · split <;> rfl

@[simp] theorem collected_reselectFor (n : Nat) : collected (reselectFor n s) = collected s := by
  induction n generalizing s with
  | zero => rfl
  | succ n ih =>
    unfold reselectFor
    split
    · rfl
    · rfl
    · split
      · rw [ih, endNotice, collected_queueNotice, collected_popped]
      · simp

@[simp] theorem collected_reselectIfFreed (had : Bool) : collected (reselectIfFreed had s) = collected s := by
  unfold reselectIfFreed reselect; split <;> simp

@[simp] theorem collected_dueEnds : collected (dueEnds s) = collected s := by
  unfold dueEnds
  split
  · rfl
  · split
    · rfl
    · split <;> rfl

@[simp] theorem collected_repeatOver (r : Announcement) : collected (repeatOver r s) = collected s := by
  unfold repeatOver
  split
  · rfl
  · split
    · rfl
    · simp

theorem collected_progress {act : State → State} (h : collected (act s) = collected s) (r : Announcement) :
    collected (progress r act s) = collected s := by
  unfold progress; split <;> simp [h]

@[simp] theorem collected_repeatEndEvent : collected (repeatEndEvent s) = collected s := by
  unfold repeatEndEvent
  split
  · rfl
  · split
    · exact collected_progress s (by simp) _
    · rfl

@[simp] theorem collected_gapEndEvent : collected (gapEndEvent s) = collected s := by
  unfold gapEndEvent
  split
  · rfl
  · split
    · exact collected_progress s (by simp) _
    · rfl

@[simp] theorem collected_liveTimeoutEvent : collected (liveTimeoutEvent s) = collected s := by
  unfold liveTimeoutEvent
  split
  · rfl
  · split
    · exact collected_progress s (by simp) _
    · rfl

@[simp] theorem collected_autoAnnounce (b : Berth) (name : Option ClipNo) :
    collected (autoAnnounce b name s).1 = collected s := by
  unfold autoAnnounce
  split
  · rfl
  · split
    · rfl
    · dsimp only; split <;> simp

@[simp] theorem collected_callPress (b : Berth) : collected (callPress b s) = collected s := by
  unfold callPress
  split
  · rfl
  · split
    · rw [collected_queueNotice, collected_autoAnnounce]; rfl
    · rfl

@[simp] theorem collected_afterAccept (b : Berth) (report press : Bool) :
    collected (afterAccept b report press s) = collected s := by
  have reported : collected (if report then reportChange b s else s) = collected s := by
    split <;> simp [collected]
  unfold afterAccept
  dsimp only
  split
  · rw [collected_callPress, reported]
  · exact reported

@[simp] theorem collected_makePresent (b : Berth) : collected (makePresent b s) = collected s := by
  rw [makePresent, collected_afterAccept]; rfl

@[simp] theorem collected_validSlot (b : Berth) (status : Byte) : collected (validSlot b status s) = collected s := by
  unfold validSlot
  dsimp only
  split
  · rw [collected_afterAccept]; rfl
  · split
    · rw [collected_makePresent]; rfl
    · rfl

@[simp] theorem collected_slotArrives (b : Berth) (slot : UpSlot) : collected (slotArrives b slot s) = collected s := by
  unfold slotArrives
  split
  · rfl
  · dsimp only
    split
    · split
      · rw [collected_validSlot]; simp [collected]
      · simp [collected]
    · simp [collected]

@[simp] theorem collected_berthPresentEvent (b : Berth) : collected (berthPresentEvent b s) = collected s := by
  unfold berthPresentEvent
  split
  · rw [collected_makePresent]; rfl
  · rfl

@[simp] theorem collected_fieldAcceptedEvent (b : Berth) (f : StatusField) :
    collected (fieldAcceptedEvent b f s) = collected s := by
  unfold fieldAcceptedEvent
  dsimp only
  split
  · rw [collected_afterAccept]; rfl
  · rfl

@[simp] theorem collected_depthLimitChanged (old : Nat) : collected (depthLimitChanged old s) = collected s := by
  unfold depthLimitChanged; dsimp only; split <;> simp

@[simp] theorem collected_settingEffects (i : Fin 17) (old : Settings) :
    collected (settingEffects i old s) = collected s := by
  unfold settingEffects
  split
  case h_3 => simp
  all_goals simp [collected]

/-- No request changes what the microphones have brought. -/
@[simp] theorem collected_passOn (r : Request) (p : List Byte) : collected (passOn r p s).1 = collected s := by
  cases r
  case settingSet =>
    simp only [passOn, replied, handleSettingSet]
    split
    · rfl
    · dsimp only
      rw [collected_settingEffects]; rfl
  case announce =>
    simp only [passOn, replied, handleAnnounce]
    repeat' split
    all_goals simp
  case annEnd =>
    simp only [passOn, replied, handleAnnEnd]
    repeat' split
    all_goals rfl
  case annWithdraw =>
    simp only [passOn, replied, handleAnnWithdraw, withdrawOther]
    repeat' split
    all_goals rfl
  all_goals simp [passOn, replied, collected]

end

/-- The cells and the audio block that a programme has received for the next frame (R24, R26). -/
def received (s : State) (p : ProgrammeNo) : List VideoCell × Option AudioBlock :=
  (s.programmes[p].receivingCells, s.programmes[p].receivingAudio)

/-- A change of a programme's other items changes nothing that has been received. -/
theorem received_setProgramme {f : Programme → Programme}
    (h : ∀ r, (f r).receivingCells = r.receivingCells ∧ (f r).receivingAudio = r.receivingAudio) (p : ProgrammeNo)
    (s : State) : received (setProgramme p f s) = received s := by
  funext q
  simp only [received, setProgramme_programmes, amend_get]
  split
  · rename_i same
    subst same
    rw [(h _).1, (h _).2]
  · rfl

theorem received_congr {s t : State} (h : t.programmes = s.programmes) : received t = received s := by
  funext p
  simp only [received, h]

@[simp] theorem received_stall (p : ProgrammeNo) (s : State) : received (stall p s) = received s :=
  (received_congr rfl).trans (received_setProgramme (f := fun r => { r with state := .stalled, interval := none })
    (fun _ => ⟨rfl, rfl⟩) p s)

/-- No request changes what the programmes have received. -/
@[simp] theorem received_passOn (r : Request) (p : List Byte) (s : State) :
    received (passOn r p s).1 = received s := by
  cases r
  case programmeSet =>
    simp only [passOn, replied, handleProgrammeSet]
    split
    · rfl
    · split
      · exact received_setProgramme (by exact fun _ => ⟨rfl, rfl⟩) _ s
      · rfl
  case programmeStatus =>
    simp only [passOn, replied, handleProgrammeStatus]
    split
    · rfl
    · exact received_setProgramme (by exact fun _ => ⟨rfl, rfl⟩) _ s
  all_goals exact received_congr (by simp [passOn, replied])

/-- The first frame after a reset is empty: no frame has begun, or nothing has been taken in. -/
theorem firstFrameEmpty_iff (s : State) :
    FirstFrameEmpty s ↔ (begun s = false → received s = (fun _ => ([], none)) ∧ collected s = ([], [])) := by
  simp [FirstFrameEmpty, received, collected, begun, funext_iff]

/-- What an act keeps of the first frame: the mark that a frame has begun, and what has been taken in. -/
theorem firstFrameEmpty_of_kept {s t : State} (h : FirstFrameEmpty s) (mark : begun t = begun s)
    (programmes : received t = received s) (mics : collected t = collected s) : FirstFrameEmpty t := by
  rw [firstFrameEmpty_iff] at h ⊢
  rwa [mark, programmes, mics]

/-- What a frame that has begun takes in is no concern of the first frame. -/
theorem firstFrameEmpty_of_begun {t : State} (h : begun t = true) : FirstFrameEmpty t := by
  rw [firstFrameEmpty_iff]
  intro shut
  simp [h] at shut

theorem advancePeriod_frameOpen (m : Mixer) : m.advancePeriod.frameOpen = true := by
  unfold Mixer.advancePeriod
  split
  · rename_i opened
    split
    · simpa only [Mixer.endPeriod] using opened
    · exact opened
  · rfl

/-- After a lane frame start a frame has begun (R189). -/
theorem frameWork_begun (line : Line) (strobe : Bool) (s : State) : begun (frameWork line strobe s) = true := by
  simp [begun, frameWork, mixerOutputs, mixerGains, mixerAccount, advancePeriod_frameOpen]

theorem firstFrameEmpty_fresh {t : State} (programmes : t.programmes = Vector.replicate 6 {})
    (mics : collected t = ([], [])) : FirstFrameEmpty t := by
  rw [firstFrameEmpty_iff]
  exact fun _ => ⟨by funext p; simp [received, programmes], mics⟩

theorem keeps_firstFrameEmpty : Keeps FirstFrameEmpty := by
  have arrival {s t : State} (h : FirstFrameEmpty s) (mark : begun t = begun s) (lost : begun s = false → t = s) :
      FirstFrameEmpty t := by
    cases opened : begun s
    · rwa [lost opened]
    · exact firstFrameEmpty_of_begun (mark.trans opened)
  constructor
  case passOn =>
    intro r p s h
    refine firstFrameEmpty_of_kept h ?_ (by simp) (by simp)
    cases r
    all_goals simp [passOn, replied, begun, handleCurveSet]
  case frame => exact fun line strobe s _ => firstFrameEmpty_of_begun (frameWork_begun line strobe s)
  case powerOn => exact fun _ _ => firstFrameEmpty_fresh rfl rfl
  case restart => exact fun _ _ => firstFrameEmpty_fresh rfl rfl
  case stall =>
    intro p s h
    unfold stallEvent
    split
    · exact firstFrameEmpty_of_kept h (by simp [begun]) (by simp) (by simp [collected])
    · exact h
  case cell =>
    intro p entry video s h
    refine arrival h (by simp [begun]) fun shut => ?_
    unfold cellArrives
    split <;> simp [shut]
  case audio =>
    intro p n tracks whole s h
    refine arrival h (by simp [begun]) fun shut => ?_
    unfold audioArrives
    split <;> simp [shut]
  case mic =>
    intro m x s h
    exact arrival h (by simp [begun]) fun shut => by simp [micArrives, shut]
  all_goals
    intros
    rename_i h
    exact firstFrameEmpty_of_kept h (by simp [begun, peakPeriodEvent, Mixer.endPeriod]) (received_congr (by simp))
      (by first | simp | simp [collected])

/-- Settles O57: the interval counter stops with RUNNING, an accepted alarm cancels a clear that waits, and nothing
is taken in before a frame has begun. -/
theorem programmesAndAlarmStaySound : Obligations.ProgrammesAndAlarmStaySound :=
  ⟨fun _ _ settings sound e => (keeps_programmesSound.step (fun _ _ h => h) ⟨settings, sound⟩ e).2,
    fun _ _ h e => keeps_emergencySound.step (fun _ _ h => h) h e,
    fun _ _ h e => keeps_firstFrameEmpty.step (fun _ _ h => h) h e⟩

end Sys2Proof.Machine
end

section
/-! The berths and the lanes, record by record: what a report, a change of presence, a slot, the closing of a lane
frame and the events make of the berth's record and of the lane's (R151 to R160); and that they stay sound. -/

namespace Sys2Proof.Machine

/-! ## Reports and presence -/

/-- A berth that has gone ABSENT; a change of presence sets the BERTH_CHANGE pending flag (R157, R159). -/
def BerthLink.absented (x : BerthLink) : BerthLink :=
  { x.goAbsent with changePending := x.changePending || x.present }

theorem reportChange_berths (b : Berth) (s : State) :
    (reportChange b s).berths = amend s.berths b fun x => { x with changePending := true } := by
  unfold reportChange
  dsimp only
  split
  · rename_i set
    refine (amend_self _ _ ?_).symm
    rw [← set]
  · simp

theorem makeAbsent_berths (b : Berth) (s : State) :
    (makeAbsent b s).berths = amend s.berths b BerthLink.absented := by
  unfold makeAbsent
  dsimp only
  split
  · rename_i was
    rw [reportChange_berths, setBerth_berths, amend_amend]
    exact amend_congr _ _ (by simp only [BerthLink.absented, was, Bool.or_true, Function.comp_apply])
  · rename_i was
    rw [setBerth_berths]
    exact amend_congr _ _ (by simp only [BerthLink.absented, was, Bool.or_false]; rfl)

theorem nodup_berthsOf (l : LaneNo) : (berthsOf l).Nodup := (List.nodup_finRange 40).filter _

/-- The berths of a lane go ABSENT, the others stay as they are (R157). -/
theorem laneAbsent_berth (l : LaneNo) (s : State) (b : Berth) :
    (laneAbsent l s).berths[b] = if laneOf b = l then s.berths[b].absented else s.berths[b] := by
  have gone := foldl_amend (table := State.berths) (f := fun s b => makeAbsent b s)
    (g := fun _ => BerthLink.absented) (I := fun _ => True) (fun _ _ _ => trivial)
    (fun s b _ => makeAbsent_berths b s) (nodup_berthsOf l) (s := s) trivial b
  simpa only [laneAbsent, mem_berthsOf] using gone

theorem callPress_berths (b : Berth) (s : State) : (callPress b s).berths = s.berths := by simp

/-- What an accepted change brings about sets the BERTH_CHANGE pending flag when a report is due (R159). -/
theorem afterAccept_berths (b : Berth) (report press : Bool) (s : State) :
    (afterAccept b report press s).berths =
      amend s.berths b fun x => { x with changePending := x.changePending || report } := by
  have reported : (if report then reportChange b s else s).berths =
      amend s.berths b fun x => { x with changePending := x.changePending || report } := by
    cases report
    · exact (amend_self _ _ (by simp)).symm
    · simpa using reportChange_berths b s
  unfold afterAccept
  dsimp only
  split
  · rw [callPress_berths, reported]
  · exact reported

/-- A berth that has become PRESENT, each field whose run is 3 with its candidate (R157, R158). -/
def BerthLink.presented (x : BerthLink) : BerthLink := { { x with present := true }.settle with changePending := true }

theorem makePresent_berths (b : Berth) (s : State) :
    (makePresent b s).berths = amend s.berths b BerthLink.presented := by
  rw [makePresent, afterAccept_berths, setBerth_berths, amend_amend]
  exact amend_congr _ _ (by simp [BerthLink.presented])

/-! ## Slots -/

/-- A berth's record after a valid slot with this status byte (R157, R158). -/
def BerthLink.heard (status : Byte) (x : BerthLink) : BerthLink :=
  let y := (x.debounce status).countValid
  if y.present then { y.settle with changePending := y.changePending || reportable y y.settle }
  else if y.validRun = 3 then y.presented
  else y

/-- A berth's record after an invalid or missing slot (R157). -/
def BerthLink.missed (x : BerthLink) : BerthLink :=
  if x.countInvalid.present && x.countInvalid.invalidRun == 8 then x.countInvalid.absented else x.countInvalid

theorem validSlot_berths (b : Berth) (status : Byte) (s : State) :
    (validSlot b status s).berths = amend s.berths b (BerthLink.heard status) := by
  unfold validSlot
  simp only [setBerth_berths, amend_get_same]
  split
  · rename_i present
    rw [afterAccept_berths, setBerth_berths, setBerth_berths, amend_amend, amend_amend]
    exact amend_congr _ _ (by simp only [BerthLink.heard, if_pos present]; rfl)
  · rename_i absent
    split
    · rename_i third
      rw [makePresent_berths, setBerth_berths, amend_amend]
      exact amend_congr _ _ (by simp only [BerthLink.heard, if_neg absent, if_pos third]; rfl)
    · rename_i short
      rw [setBerth_berths]
      exact amend_congr _ _ (by simp only [BerthLink.heard, if_neg absent, if_neg short])

theorem invalidSlot_berths (b : Berth) (s : State) :
    (invalidSlot b s).berths = amend s.berths b BerthLink.missed := by
  unfold invalidSlot
  simp only [setBerth_berths, amend_get_same]
  split
  · rename_i eighth
    rw [makeAbsent_berths, setBerth_berths, amend_amend]
    exact amend_congr _ _ (by simp only [BerthLink.missed, if_pos eighth]; rfl)
  · rename_i short
    rw [setBerth_berths]
    exact amend_congr _ _ (by simp only [BerthLink.missed, if_neg short])

/-! ## The closing of a lane frame -/

/-- An UP lane loses sync with the frame just ended (R153). -/
def Lane.losesSync (x : Lane) : Bool := x.state == .up && !x.trailerGood && decide (8 ≤ x.badRun + 1)

/-- A lane's record once it has judged the frame just ended (R153). -/
def Lane.judged (x : Lane) : Lane :=
  match x.state with
  | .disabled => x
  | .down =>
    if x.trailerGood then
      if 16 ≤ x.goodRun + 1 then x.enter .up
      else { x with goodRun := x.goodRun + 1, trailerReceived := false, trailerGood := false }
    else { x with goodRun := 0, trailerReceived := false, trailerGood := false }
  | .up =>
    if x.trailerGood then { x with badRun := 0, trailerReceived := false, trailerGood := false }
    else if 8 ≤ x.badRun + 1 then x.enter .down
    else { x with badRun := x.badRun + 1, trailerReceived := false, trailerGood := false }

@[simp] theorem laneTrains_lanes (l : LaneNo) (s : State) :
    (laneTrains l s).lanes = amend s.lanes l fun x => x.enter .up := by
  rw [laneTrains, laneNotice, queueNotice_lanes, setLane_lanes]

@[simp] theorem laneLoses_lanes (l : LaneNo) (s : State) :
    (laneLoses l s).lanes = amend s.lanes l fun x => x.enter .down := by
  simp [laneLoses, laneNotice]

theorem laneLoses_berth (l : LaneNo) (s : State) (b : Berth) :
    (laneLoses l s).berths[b] = if laneOf b = l then s.berths[b].absented else s.berths[b] := by
  have start : (laneNotice l .up .down .lost (raise (.syncLoss l) 1 (setLane l (fun x => x.enter .down) s))).berths =
      s.berths := by simp [laneNotice]
  simp only [laneLoses, laneAbsent_berth, start]

theorem judgeLane_lanes (l : LaneNo) (s : State) : (judgeLane l s).lanes = amend s.lanes l Lane.judged := by
  unfold judgeLane
  dsimp only
  split <;> rename_i state
  · exact (amend_self _ _ (by simp only [Lane.judged, state])).symm
  · split <;> rename_i trailer
    · split <;> rename_i run
      · rw [laneTrains_lanes]
        exact amend_congr _ _ (by simp only [Lane.judged, state, trailer, if_pos run, if_true])
      · rw [setLane_lanes]
        exact amend_congr _ _ (by simp only [Lane.judged, state, trailer, if_neg run, if_true])
    · rw [setLane_lanes]
      exact amend_congr _ _ (by simp only [Lane.judged, state, if_neg trailer])
  · split <;> rename_i trailer
    · rw [setLane_lanes]
      exact amend_congr _ _ (by simp only [Lane.judged, state, if_pos trailer])
    · split <;> rename_i run
      · rw [laneLoses_lanes]
        exact amend_congr _ _ (by simp only [Lane.judged, state, if_neg trailer, if_pos run])
      · rw [setLane_lanes]
        exact amend_congr _ _ (by simp only [Lane.judged, state, if_neg trailer, if_neg run])

theorem judgeLane_berth (l : LaneNo) (s : State) (b : Berth) :
    (judgeLane l s).berths[b] =
      if laneOf b = l ∧ s.lanes[l].losesSync = true then s.berths[b].absented else s.berths[b] := by
  by_cases loses : s.lanes[l].losesSync = true
  · simp only [loses, and_true]
    simp only [Lane.losesSync, Bool.and_eq_true, beq_iff_eq, Bool.not_eq_true', decide_eq_true_eq] at loses
    obtain ⟨⟨up, bad⟩, run⟩ := loses
    simp only [judgeLane, up, bad, Bool.false_eq_true, if_false, if_pos run, laneLoses_berth]
  · simp only [loses, and_false, if_false, Bool.false_eq_true]
    have kept : (judgeLane l s).berths = s.berths := by
      unfold judgeLane
      dsimp only
      split <;> rename_i state
      · rfl
      · split
        · split <;> simp
        · simp
      · split <;> rename_i trailer
        · simp
        · split <;> rename_i run
          · simp only [Lane.losesSync, state, trailer, run, beq_self_eq_true, Bool.not_false, Bool.and_self,
              decide_true, not_true_eq_false] at loses
          · simp
    simp only [kept]

theorem closeLanes_lane (s : State) (l : LaneNo) : (closeLanes s).lanes[l] = s.lanes[l].judged := by
  have judged := foldl_amend (table := State.lanes) (f := fun s l => judgeLane l s)
    (g := fun _ => Lane.judged) (I := fun _ => True) (fun _ _ _ => trivial)
    (fun s l _ => judgeLane_lanes l s) (List.nodup_finRange 4) (s := s) trivial l
  simpa only [closeLanes, List.mem_finRange, if_true] using judged

/-- Lanes that judge the frame one after the other: each lane's berths go ABSENT with it. -/
theorem judgeLanes_berth {ls : List LaneNo} (nodup : ls.Nodup) (s : State) (b : Berth) :
    (ls.foldl (fun s l => judgeLane l s) s).berths[b] =
      if laneOf b ∈ ls ∧ s.lanes[laneOf b].losesSync = true then s.berths[b].absented else s.berths[b] := by
  induction ls generalizing s with
  | nil => simp
  | cons l ls ih =>
    obtain ⟨fresh, nodup⟩ := List.nodup_cons.mp nodup
    rw [List.foldl_cons, ih nodup, judgeLane_berth]
    by_cases own : laneOf b = l
    · simp [own, fresh]
    · have lanes : (judgeLane l s).lanes[laneOf b] = s.lanes[laneOf b] := by
        rw [judgeLane_lanes, amend_get, if_neg (Ne.symm own)]
      simp only [own, lanes, List.mem_cons, false_or, false_and, if_false]

theorem closeLanes_berth (s : State) (b : Berth) :
    (closeLanes s).berths[b] =
      if s.lanes[laneOf b].losesSync = true then s.berths[b].absented else s.berths[b] := by
  rw [closeLanes, judgeLanes_berth (List.nodup_finRange 4)]
  simp only [List.mem_finRange, true_and]

/-- A berth's record once the missing slots have been counted (R156). -/
def BerthLink.closed (lane : LaneState) (x : BerthLink) : BerthLink :=
  if lane == .up && !x.slotJudged then x.missed else x

theorem closeSlots_berth (s : State) (b : Berth) :
    (closeSlots s).berths[b] = s.berths[b].closed s.lanes[laneOf b].state := by
  have counted := foldl_amend (table := State.berths)
    (f := fun s b => if missingSlot s b then invalidSlot b s else s)
    (g := fun b => BerthLink.closed s.lanes[laneOf b].state) (I := fun t => t.lanes = s.lanes)
    (fun t b ht => by split <;> simpa using ht)
    (fun t b ht => by
      split <;> rename_i missing
      · rw [invalidSlot_berths]
        exact amend_congr _ _ (by simp only [missingSlot, ht] at missing; simp only [BerthLink.closed, if_pos missing])
      · exact (amend_self _ _
          (by simp only [missingSlot, ht] at missing; simp only [BerthLink.closed, if_neg missing])).symm)
    (List.nodup_finRange 40) (s := s) rfl b
  simpa only [closeSlots, List.mem_finRange, if_true] using counted

/-- A berth's record after the closing of the frame just ended (R153, R156, R157). -/
theorem closeFrame_berth (s : State) (b : Berth) :
    (closeFrame s).berths[b] =
      { (if s.lanes[laneOf b].losesSync = true then (s.berths[b].closed s.lanes[laneOf b].state).absented
         else s.berths[b].closed s.lanes[laneOf b].state) with slotJudged := false } := by
  simp only [closeFrame, openSlots, tabulate_get, closeLanes_berth, closeChecker_keeps, closeSlots_keeps,
    closeSlots_berth]

/-- A lane's record after the closing of the frame just ended (R153). -/
theorem closeFrame_lane (s : State) (l : LaneNo) : (closeFrame s).lanes[l] = s.lanes[l].judged := by
  simp only [closeFrame, openSlots_keeps, closeLanes_lane, closeChecker_keeps, closeSlots_keeps]

theorem sendFrames_lane_state (s : State) (l : LaneNo) : (sendFrames s).lanes[l].state = s.lanes[l].state := by
  simp only [sendFrames, tabulate_get]

/-- The berths after a lane frame start are those that the closing of the last frame leaves. -/
theorem frameWork_berth (line : Line) (strobe : Bool) (s : State) (b : Berth) :
    (frameWork line strobe s).berths[b] =
      { (if s.lanes[laneOf b].losesSync = true then (s.berths[b].closed s.lanes[laneOf b].state).absented
         else s.berths[b].closed s.lanes[laneOf b].state) with slotJudged := false } := by
  simp only [frameWork, closeBank_keeps, sendFrames_keeps, mixerOutputs_keeps, handOutWords_keeps, mixerGains_keeps,
    snapshotAt_keeps, mixerAccount_keeps, chimeFrame_keeps, routeFrame_keeps, voiceFrame_keeps, clockFrame_keeps,
    testFrame_keeps, closeFrame_berth, emergencyFrame_keeps, programmeFrame_keeps, timerFrame_keeps]

theorem frameWork_lane_state (line : Line) (strobe : Bool) (s : State) (l : LaneNo) :
    (frameWork line strobe s).lanes[l].state = s.lanes[l].judged.state := by
  simp only [frameWork, closeBank_keeps, sendFrames_lane_state, mixerOutputs_keeps, handOutWords_keeps,
    mixerGains_keeps, snapshotAt_keeps, mixerAccount_keeps, chimeFrame_keeps, routeFrame_keeps, voiceFrame_keeps,
    clockFrame_keeps, testFrame_keeps, closeFrame_lane, emergencyFrame_keeps, programmeFrame_keeps, timerFrame_keeps]

/-! ## Sound records -/

theorem Debounced.sample_run {α : Type} [DecidableEq α] {d : Debounced α} (v : α) : (d.sample v).run ≤ 3 := by
  unfold Debounced.sample
  split
  · exact Nat.min_le_right _ _
  · simp

theorem Debounced.accept_run {α : Type} (d : Debounced α) : d.accept.run = d.run := by
  unfold Debounced.accept
  split <;> rfl

theorem Debounced.settle_run {α : Type} (d : Debounced α) : d.settle.run = d.run := by
  unfold Debounced.settle
  split
  · exact d.accept_run
  · rfl

theorem Debounced.sample_accepted {α : Type} [DecidableEq α] (d : Debounced α) (v : α) :
    (d.sample v).accepted = d.accepted := by
  unfold Debounced.sample
  split <;> rfl

theorem BerthLink.Sound.pending {x : BerthLink} (h : x.Sound) (p : Bool) :
    BerthLink.Sound { x with changePending := p } := h

theorem BerthLink.Sound.judged {x : BerthLink} (h : x.Sound) (p : Bool) :
    BerthLink.Sound { x with slotJudged := p } := h

theorem BerthLink.sound_goAbsent (x : BerthLink) : x.goAbsent.Sound := by
  simp [BerthLink.Sound, BerthLink.goAbsent]

theorem BerthLink.sound_absented (x : BerthLink) : x.absented.Sound := x.sound_goAbsent.pending _

theorem BerthLink.Sound.settle {x : BerthLink} (h : x.Sound) (present : x.present = true) : x.settle.Sound := by
  obtain ⟨valid, invalid, headphone, call, screen, knob, _⟩ := h
  refine ⟨valid, invalid, ?_, ?_, ?_, ?_, fun absent => ?_⟩
  · exact (Debounced.settle_run _).trans_le headphone
  · exact (Debounced.settle_run _).trans_le call
  · exact (Debounced.settle_run _).trans_le screen
  · exact (Debounced.settle_run _).trans_le knob
  · exact absurd (present.symm.trans absent) (by simp)

theorem BerthLink.Sound.presented {x : BerthLink} (h : x.Sound) : x.presented.Sound := by
  obtain ⟨valid, invalid, headphone, call, screen, knob, _⟩ := h
  exact BerthLink.Sound.settle (x := { x with present := true })
    ⟨valid, invalid, headphone, call, screen, knob, by simp⟩ rfl

theorem BerthLink.Sound.missed {x : BerthLink} (h : x.Sound) : x.missed.Sound := by
  unfold BerthLink.missed
  split
  · exact BerthLink.sound_absented _
  · obtain ⟨_, _, rest⟩ := h
    exact ⟨Nat.zero_le _, Nat.min_le_right _ _, rest⟩

theorem BerthLink.Sound.heard {x : BerthLink} (h : x.Sound) (status : Byte) : (x.heard status).Sound := by
  have counted : ((x.debounce status).countValid).Sound := by
    obtain ⟨_, _, _, _, _, _, defaults⟩ := h
    refine ⟨Nat.min_le_right _ _, Nat.zero_le _, Debounced.sample_run _, Debounced.sample_run _,
      Debounced.sample_run _, Debounced.sample_run _, fun absent => ?_⟩
    simp only [BerthLink.countValid, BerthLink.debounce, Debounced.sample_accepted]
    exact defaults absent
  unfold BerthLink.heard
  dsimp only
  split
  · rename_i present
    exact (counted.settle present).pending _
  · split
    · exact counted.presented
    · exact counted

theorem BerthLink.missed_present {x : BerthLink} (h : x.missed.present = true) : x.present = true := by
  unfold BerthLink.missed at h
  split at h
  · simp [BerthLink.absented, BerthLink.goAbsent] at h
  · exact h

theorem BerthLink.closed_present {x : BerthLink} {lane : LaneState} (h : (x.closed lane).present = true) :
    x.present = true := by
  unfold BerthLink.closed at h
  split at h
  · exact BerthLink.missed_present h
  · exact h

theorem BerthLink.Sound.closed {x : BerthLink} (h : x.Sound) (lane : LaneState) : (x.closed lane).Sound := by
  unfold BerthLink.closed
  split
  · exact h.missed
  · exact h

theorem BerthLink.Sound.acceptField {x : BerthLink} (h : x.Sound) (present : x.present = true) (f : StatusField) :
    (x.acceptField f).Sound := by
  obtain ⟨valid, invalid, headphone, call, screen, knob, _⟩ := h
  cases f
  · exact ⟨valid, invalid, (Debounced.accept_run _).le, call, screen, knob,
      fun absent => absurd (present.symm.trans absent) (by simp)⟩
  · exact ⟨valid, invalid, headphone, (Debounced.accept_run _).le, screen, knob,
      fun absent => absurd (present.symm.trans absent) (by simp)⟩
  · exact ⟨valid, invalid, headphone, call, (Debounced.accept_run _).le, knob,
      fun absent => absurd (present.symm.trans absent) (by simp)⟩
  · exact ⟨valid, invalid, headphone, call, screen, (Debounced.accept_run _).le,
      fun absent => absurd (present.symm.trans absent) (by simp)⟩

/-! ## Sound tables -/

/-- Every berth's record is sound, and a PRESENT berth's lane is UP: `BerthsSound` of two tables. -/
def TablesSound (berths : Vector BerthLink 40) (lanes : Vector Lane 4) : Prop :=
  ∀ b : Berth, berths[b].Sound ∧ (berths[b].present = true → lanes[laneOf b].state = .up)

theorem berthsSound_iff (s : State) : BerthsSound s ↔ TablesSound s.berths s.lanes := Iff.rfl

section
variable {berths : Vector BerthLink 40} {lanes : Vector Lane 4}

/-- A berth's record that stays sound, and PRESENT only where its lane is UP, keeps the tables sound. -/
theorem TablesSound.amend_berth (h : TablesSound berths lanes) (b : Berth) {f : BerthLink → BerthLink}
    (sound : (f berths[b]).Sound) (up : (f berths[b]).present = true → lanes[laneOf b].state = .up) :
    TablesSound (amend berths b f) lanes := by
  intro c
  rw [amend_get]
  split
  · rename_i same
    subst same
    exact ⟨sound, up⟩
  · exact h c

/-- A lane's record that stays UP where it was keeps the tables sound. -/
theorem TablesSound.amend_lane (h : TablesSound berths lanes) (l : LaneNo) {f : Lane → Lane}
    (up : lanes[l].state = .up → (f lanes[l]).state = .up) : TablesSound berths (amend lanes l f) := by
  intro b
  refine ⟨(h b).1, fun present => ?_⟩
  rw [amend_get]
  split
  · rename_i same
    subst same
    exact up ((h b).2 present)
  · exact (h b).2 present

end

theorem berthsSound_setBerth {s : State} (h : BerthsSound s) (b : Berth) {f : BerthLink → BerthLink}
    (sound : (f s.berths[b]).Sound) (present : (f s.berths[b]).present = s.berths[b].present) :
    TablesSound (amend s.berths b f) s.lanes :=
  TablesSound.amend_berth h b sound fun p => (h b).2 (present ▸ p)

/-- A lane that has left UP takes its berths ABSENT. -/
theorem berthsSound_laneAbsent {s t : State} (h : BerthsSound s) (l : LaneNo) {f : Lane → Lane}
    (lanes : t.lanes = amend s.lanes l f) (berths : t.berths = s.berths) : BerthsSound (laneAbsent l t) := by
  intro b
  simp only [laneAbsent_berth, laneAbsent_keeps, lanes, berths, amend_get]
  by_cases own : laneOf b = l
  · simp only [own, if_true]
    exact ⟨BerthLink.sound_absented _, fun present => by
      simp [BerthLink.absented, BerthLink.goAbsent] at present⟩
  · simpa [own, Ne.symm own] using h b

theorem laneLoses_sound {s : State} (h : BerthsSound s) (l : LaneNo) : BerthsSound (laneLoses l s) := by
  unfold laneLoses
  exact berthsSound_laneAbsent h l (f := fun x => x.enter .down) (by simp [laneNotice]) (by simp [laneNotice])

theorem judged_up {x : Lane} (up : x.state = .up) (keeps : x.losesSync = false) : x.judged.state = .up := by
  unfold Lane.judged
  simp only [up]
  split
  · rfl
  · rename_i bad
    split
    · rename_i run
      simp [Lane.losesSync, up, bad, run] at keeps
    · rfl

theorem frameWork_berthsSound {s : State} (h : BerthsSound s) (line : Line) (strobe : Bool) :
    BerthsSound (frameWork line strobe s) := by
  intro b
  rw [frameWork_berth, frameWork_lane_state]
  cases loses : s.lanes[laneOf b].losesSync
  · simp only [Bool.false_eq_true, if_false]
    exact ⟨((h b).1.closed _).judged false,
      fun present => judged_up ((h b).2 (BerthLink.closed_present present)) loses⟩
  · simp only [if_true]
    refine ⟨(BerthLink.sound_absented _).judged false, fun present => ?_⟩
    simp [BerthLink.absented, BerthLink.goAbsent] at present

theorem handleLaneSet_berthsSound {s : State} (h : BerthsSound s) (lane enable : Byte) :
    BerthsSound (handleLaneSet lane enable s).1 := by
  unfold handleLaneSet
  split
  · rename_i l _ _
    split <;> rename_i state
    · exact TablesSound.amend_lane h l fun up => by simp only [state, reduceCtorEq] at up
    · exact h
    · exact h
  · rename_i l _ _
    split <;> rename_i state
    · exact h
    · exact TablesSound.amend_lane h l fun up => by simp only [state, reduceCtorEq] at up
    · exact berthsSound_laneAbsent h l (f := fun x => x.enter .disabled) (by simp [laneNotice]) (by simp [laneNotice])
  · exact h

theorem handleLaneReset_berthsSound {s : State} (h : BerthsSound s) (lane : Byte) :
    BerthsSound (handleLaneReset lane s).1 := by
  unfold handleLaneReset
  split
  · exact h
  · rename_i l _
    have reset : BerthsSound (resetLaneBerths l (setLane l (fun x => x.enter .down) s)) := by
      intro b
      simp only [resetLaneBerths, tabulate_get, setLane_lanes, setLane_berths, amend_get]
      by_cases own : laneOf b = l
      · simp only [own, if_true]
        exact ⟨(BerthLink.sound_goAbsent _).pending false, by simp [BerthLink.goAbsent]⟩
      · simpa [own, Ne.symm own] using h b
    dsimp only
    split
    · exact reset
    · exact reset

theorem validSlot_berthsSound {s : State} (h : BerthsSound s) (b : Berth) (up : s.lanes[laneOf b].state = .up)
    (status : Byte) : BerthsSound (validSlot b status s) := by
  have lanes : (validSlot b status s).lanes = s.lanes := by simp
  rw [berthsSound_iff, validSlot_berths, lanes]
  exact TablesSound.amend_berth h b ((h b).1.heard status) fun _ => up

theorem invalidSlot_berthsSound {s : State} (h : BerthsSound s) (b : Berth) : BerthsSound (invalidSlot b s) := by
  have lanes : (invalidSlot b s).lanes = s.lanes := by simp
  rw [berthsSound_iff, invalidSlot_berths, lanes]
  exact TablesSound.amend_berth h b (h b).1.missed fun present => (h b).2 (BerthLink.missed_present present)

/-- Two states with the same berths and lanes are equally sound. -/
theorem BerthsSound.congr {s t : State} (h : BerthsSound s) (berths : t.berths = s.berths) (lanes : t.lanes = s.lanes) :
    BerthsSound t := by
  rw [berthsSound_iff, berths, lanes]
  exact h

theorem slotArrives_berthsSound {s : State} (h : BerthsSound s) (b : Berth) (slot : UpSlot) :
    BerthsSound (slotArrives b slot s) := by
  unfold slotArrives
  split
  · exact h
  · rename_i open_
    simp only [not_or, ne_eq, not_not] at open_
    have marked : BerthsSound (setBerth b (fun x => { x with slotJudged := true }) s) :=
      berthsSound_setBerth h b ((h b).1.judged true) rfl
    dsimp only
    split
    · split
      · exact validSlot_berthsSound (marked.congr (by simp) (by simp)) b (by simpa using open_.1) _
      · exact invalidSlot_berthsSound (marked.congr (by simp) (by simp)) b
    · exact invalidSlot_berthsSound (marked.congr (by simp) (by simp)) b

theorem berthPresentEvent_berthsSound {s : State} (h : BerthsSound s) (b : Berth) :
    BerthsSound (berthPresentEvent b s) := by
  unfold berthPresentEvent
  split
  · rename_i able
    have lanes (t : State) : (makePresent b t).lanes = t.lanes := by simp
    rw [berthsSound_iff, makePresent_berths, lanes, setBerth_berths, amend_amend]
    refine TablesSound.amend_berth h b (BerthLink.Sound.presented ?_) fun _ => able.1
    obtain ⟨_, _, rest⟩ := (h b).1
    exact ⟨Nat.le_refl 3, Nat.zero_le 8, rest⟩
  · exact h

theorem berthAbsentEvent_berthsSound {s : State} (h : BerthsSound s) (b : Berth) :
    BerthsSound (berthAbsentEvent b s) := by
  unfold berthAbsentEvent
  split
  · have lanes : (makeAbsent b s).lanes = s.lanes := by simp
    rw [berthsSound_iff, makeAbsent_berths, lanes]
    exact TablesSound.amend_berth h b (BerthLink.sound_absented _) fun present => by
      simp [BerthLink.absented, BerthLink.goAbsent] at present
  · exact h

theorem fieldAcceptedEvent_berthsSound {s : State} (h : BerthsSound s) (b : Berth) (f : StatusField) :
    BerthsSound (fieldAcceptedEvent b f s) := by
  unfold fieldAcceptedEvent
  dsimp only
  split
  · rename_i waits
    have present := (Bool.and_eq_true_iff.mp waits).1
    have lanes (report press : Bool) (t : State) : (afterAccept b report press t).lanes = t.lanes := by simp
    rw [berthsSound_iff, afterAccept_berths, lanes, setBerth_berths, amend_amend]
    exact TablesSound.amend_berth h b (((h b).1.acceptField present f).pending _) fun _ => (h b).2 present
  · exact h

theorem berthsSound_fresh {s : State} (h : s.berths = Vector.replicate 40 {}) : BerthsSound s := by
  intro b
  simp [h, BerthLink.Sound]

theorem keeps_berthsSound : Keeps BerthsSound := by
  constructor
  case passOn =>
    intro r p s h
    cases r
    case laneSet => exact handleLaneSet_berthsSound h _ _
    case laneReset => exact handleLaneReset_berthsSound h _
    case berthStatus =>
      simp only [passOn, replied, handleBerthStatus]
      split
      · exact h
      · exact berthsSound_setBerth h _ ((h _).1.pending false) rfl
    all_goals exact h.congr (by simp [passOn, replied]) (by simp [passOn, replied])
  case frame => exact fun line strobe s h => frameWork_berthsSound h line strobe
  case powerOn => exact fun _ _ => berthsSound_fresh rfl
  case restart => exact fun _ _ => berthsSound_fresh rfl
  case trained =>
    intro l s h
    unfold laneTrainedEvent
    split
    · have berths : (laneTrains l s).berths = s.berths := by simp
      rw [berthsSound_iff, laneTrains_lanes, berths]
      exact TablesSound.amend_lane h l fun _ => rfl
    · exact h
  case syncLoss =>
    intro l s h
    unfold laneSyncLossEvent
    split
    · exact laneLoses_sound h l
    · exact h
  case trailer =>
    intro l echo crc s h
    unfold trailerArrives
    dsimp only
    split
    · exact h
    · exact TablesSound.amend_lane h l id
  case slot => exact fun b slot s h => slotArrives_berthsSound h b slot
  case present => exact fun b s h => berthPresentEvent_berthsSound h b
  case absent => exact fun b s h => berthAbsentEvent_berthsSound h b
  case field => exact fun b f s h => fieldAcceptedEvent_berthsSound h b f
  all_goals
    intros
    rename_i h
    exact h.congr (by simp) (by simp)

/-! ## The lane test -/

theorem testFrame_sound {s : State} (h : s.test.Sound) (latch : Bool) : (testFrame latch s).test.Sound := by
  unfold testFrame
  dsimp only
  split
  · exact ⟨by simp, h.2⟩
  · exact h

theorem handOutWords_sound {s : State} (h : s.test.Sound) : (handOutWords s).test.Sound := by
  unfold handOutWords
  split
  · exact ⟨h.1, Nat.min_le_right _ _⟩
  · exact h

theorem keeps_laneTestSound : Keeps fun s => s.test.Sound := by
  constructor
  case passOn =>
    intro r p s h
    cases r
    case laneTestStart =>
      simp only [passOn, replied, handleLaneTestStart]
      split
      · exact h
      · split
        · exact h
        · split
          · exact h
          · rename_i tested
            exact ⟨by simpa using tested, Nat.zero_le _⟩
    case laneTestStop =>
      simp only [passOn, replied, handleLaneTestStop]
      split
      · exact ⟨by simp, h.2⟩
      · exact h
    all_goals simpa [passOn, replied] using h
  case frame =>
    intro line strobe s h
    have tested : (testFrame (emergencyFrame line s).emergency.latch s).test.Sound := testFrame_sound h _
    simp only [frameWork, closeBank_keeps, sendFrames_keeps, mixerOutputs_keeps]
    refine handOutWords_sound ?_
    simp only [mixerGains_keeps, snapshotAt_keeps, mixerAccount_keeps, chimeFrame_keeps, routeFrame_keeps,
      voiceFrame_keeps, clockFrame_keeps]
    exact testFrame_sound (by simpa using h) _
  case powerOn => exact fun _ _ => ⟨by simp [powerOn, State.reset], by simp [powerOn, State.reset]⟩
  case restart => exact fun _ _ => ⟨by simp [restartPart], by simp [restartPart]⟩
  all_goals simp

/-- Settles O60: a lane that leaves UP takes its berths ABSENT, a berth becomes PRESENT on an UP lane alone, and a
lane test starts with a berth and ends with none. -/
theorem berthsStaySound : Obligations.BerthsStaySound := fun _ _ hb ht e =>
  ⟨keeps_berthsSound.step (fun _ _ h => h) hb e, keeps_laneTestSound.step (fun _ _ h => h) ht e⟩

end Sys2Proof.Machine
end

section
/-! The wake list stays in order and in accord with the stop table (R125 to R132, R135 to R141). -/

namespace Sys2Proof.Machine

/-! ## The order of the list -/

/-- An entry stands in front of another: by due minute, then by berth (R131). -/
def Ahead (x y : WakeEntry) : Prop := x.due < y.due ∨ (x.due = y.due ∧ x.berth < y.berth)

theorem before_iff (x y : WakeEntry) : x.before y = true ↔ Ahead x y := by
  simp only [WakeEntry.before, Ahead, Fin.lt_def, Bool.or_eq_true, Bool.and_eq_true, decide_eq_true_eq, beq_iff_eq]

/-- Of two entries of different berths one stands in front of the other. -/
theorem ahead_of_not_before {x y : WakeEntry} (h : ¬ x.before y = true) (ne : x.berth ≠ y.berth) : Ahead y x := by
  rw [before_iff] at h
  simp only [Ahead, Fin.lt_def] at h ⊢
  have : x.berth.val ≠ y.berth.val := fun e => ne (Fin.ext e)
  omega

theorem ahead_trans {x y z : WakeEntry} (hxy : Ahead x y) (hyz : Ahead y z) : Ahead x z := by
  simp only [Ahead, Fin.lt_def] at *
  omega

/-- An entry takes its place among the others (R131). -/
theorem insertEntry_perm (list : List WakeEntry) (e : WakeEntry) : (insertEntry list e).Perm (e :: list) := by
  induction list with
  | nil => exact .refl _
  | cons x list ih =>
    unfold insertEntry
    split
    · exact .refl _
    · exact (ih.cons x).trans (.swap e x list)

theorem insertEntry_order {list : List WakeEntry} {e : WakeEntry} (h : list.Pairwise Ahead)
    (ne : ∀ x ∈ list, e.berth ≠ x.berth) : (insertEntry list e).Pairwise Ahead := by
  induction list with
  | nil => exact List.pairwise_singleton _ _
  | cons x list ih =>
    obtain ⟨first, rest⟩ := List.pairwise_cons.mp h
    unfold insertEntry
    split
    · rename_i before
      have front := (before_iff e x).mp before
      exact .cons (List.forall_mem_cons.mpr ⟨front, fun y hy => ahead_trans front (first y hy)⟩) h
    · rename_i notBefore
      have behind := ahead_of_not_before notBefore (ne x (List.mem_cons_self ..))
      refine .cons (fun y hy => ?_) (ih rest fun y hy => ne y (List.mem_cons_of_mem _ hy))
      rcases List.mem_cons.mp ((insertEntry_perm list e).mem_iff.mp hy) with rfl | old
      · exact behind
      · exact first y old

theorem insertEntries_perm (es list : List WakeEntry) : (es.foldl insertEntry list).Perm (es ++ list) := by
  induction es generalizing list with
  | nil => exact .refl _
  | cons e es ih => exact (ih _).trans (((insertEntry_perm list e).append_left es).trans List.perm_middle)

theorem insertEntries_order {es list : List WakeEntry} (h : list.Pairwise Ahead)
    (distinct : ((es ++ list).map WakeEntry.berth).Nodup) : (es.foldl insertEntry list).Pairwise Ahead := by
  induction es generalizing list with
  | nil => exact h
  | cons e es ih =>
    rw [List.cons_append, List.map_cons, List.nodup_cons] at distinct
    obtain ⟨fresh, distinct⟩ := distinct
    refine ih (insertEntry_order h fun x hx same => fresh ?_) ?_
    · exact List.mem_map.mpr ⟨x, List.mem_append_right _ hx, same.symm⟩
    · have moved : (es ++ insertEntry list e).Perm (e :: (es ++ list)) :=
        ((insertEntry_perm list e).append_left es).trans List.perm_middle
      exact (moved.map WakeEntry.berth).nodup_iff.mpr (List.nodup_cons.mpr ⟨fresh, distinct⟩)

/-! ## The entries of one stop -/

/-- The entries of a stop with their new due minutes, and the others (R136). -/
theorem reviseEntries_perm (t : StopNo) (eta : Nat) (es : List WakeEntry) :
    (reviseEntries t eta es).Perm
      (es.map fun e => if e.stop = t then { e with due := dueMinute eta e.lead } else e) := by
  have parts : (es.map fun e => if e.stop = t then { e with due := dueMinute eta e.lead } else e).Perm
      (((es.filter fun e => e.stop == t).map fun e => { e with due := dueMinute eta e.lead }) ++
        es.filter fun e => e.stop != t) := by
    induction es with
    | nil => exact .refl _
    | cons e es ih =>
      by_cases own : e.stop = t
      · simpa [own] using ih
      · simpa [own] using (ih.cons e).trans List.perm_middle.symm
  exact (insertEntries_perm _ _).trans parts.symm

/-! ## Sound entries -/

section
variable {stops : Vector Stop 24} {e : WakeEntry}

theorem WakeEntry.Sound.ring (h : e.Sound stops) (m : Nat) (rings : e.rings m = true) : e.ring.Sound stops := by
  obtain ⟨low, high, due, used, ahead, _, _⟩ := h
  have armed : e.state = .armed := by
    simp only [WakeEntry.rings, Bool.and_eq_true, beq_iff_eq] at rings
    exact rings.1
  exact ⟨low, high, due, used, fun _ => ahead (.inl armed), fun _ => rfl, Nat.zero_le _⟩

theorem WakeEntry.Sound.miss (h : e.Sound stops) : e.miss.Sound stops := by
  obtain ⟨low, high, due, used, _, _, cycle⟩ := h
  exact ⟨low, high, due, used, by simp [WakeEntry.miss], by simp [WakeEntry.miss], cycle⟩

theorem WakeEntry.Sound.acknowledge (h : e.Sound stops) : e.acknowledge.Sound stops := by
  obtain ⟨low, high, due, used, _, _, cycle⟩ := h
  exact ⟨low, high, due, used, by simp [WakeEntry.acknowledge], by simp [WakeEntry.acknowledge], cycle⟩

theorem WakeEntry.Sound.ringSeconds (h : e.Sound stops) (n : Nat) :
    WakeEntry.Sound stops { e with ringSeconds := n } := h

theorem WakeEntry.Sound.countSecond (h : e.Sound stops) : e.countSecond.Sound stops := by
  unfold WakeEntry.countSecond
  split
  · exact h.ringSeconds _
  · exact h

theorem WakeEntry.Sound.judge (h : e.Sound stops) (audible : Bool) : (e.judge audible).Sound stops := by
  obtain ⟨low, high, due, used, ahead, deferred, cycle⟩ := h
  unfold WakeEntry.judge
  split
  · rename_i ringing
    split
    · split
      · exact ⟨low, high, due, used, ahead, by simp, Nat.zero_le _⟩
      · refine ⟨low, high, due, used, ahead, deferred, ?_⟩
        dsimp only
        split
        · exact Nat.zero_le _
        · omega
    · exact ⟨low, high, due, used, ahead, fun _ => ringing, Nat.zero_le _⟩
  · exact ⟨low, high, due, used, ahead, deferred, cycle⟩

/-- An entry of another stop does not mind a change of this one. -/
theorem WakeEntry.Sound.other (h : e.Sound stops) {t : StopNo} (ne : e.stop ≠ t) (x : Stop) :
    e.Sound (stops.set t x) := by
  have same : (stops.set t x)[e.stop] = stops[e.stop] := by
    have : t.val ≠ e.stop.val := fun h => ne (Fin.ext h.symm)
    simp [this]
  simpa only [WakeEntry.Sound, same] using h

end

theorem countSecond_keeps (e : WakeEntry) : e.countSecond.berth = e.berth ∧ e.countSecond.due = e.due := by
  unfold WakeEntry.countSecond
  split <;> exact ⟨rfl, rfl⟩

theorem judge_keeps (e : WakeEntry) (audible : Bool) :
    (e.judge audible).berth = e.berth ∧ (e.judge audible).due = e.due := by
  unfold WakeEntry.judge
  split
  · split
    · split <;> exact ⟨rfl, rfl⟩
    · exact ⟨rfl, rfl⟩
  · exact ⟨rfl, rfl⟩

/-! ## Sound lists -/

/-- A change of entries that leaves berths and due minutes alone keeps the order of the list. -/
theorem Wake.Sound.map {w : Wake} (h : w.Sound) {g : WakeEntry → WakeEntry}
    (keeps : ∀ e, (g e).berth = e.berth ∧ (g e).due = e.due)
    (sound : ∀ e ∈ w.entries, e.Sound w.stops → (g e).Sound w.stops) :
    Wake.Sound { w with entries := w.entries.map g } := by
  refine ⟨h.eta, ?_, ?_, fun e he => ?_⟩
  · have berths : (w.entries.map g).map WakeEntry.berth = w.entries.map WakeEntry.berth := by
      simp [List.map_map, Function.comp_def, keeps]
    rw [berths]
    exact h.berths
  · refine List.pairwise_map.mpr (h.order.imp fun {x y} ahead => ?_)
    rwa [(keeps x).1, (keeps x).2, (keeps y).1, (keeps y).2]
  · obtain ⟨x, hx, rfl⟩ := List.mem_map.mp he
    exact sound x hx (h.entries x hx)

theorem Wake.Sound.filter {w : Wake} (h : w.Sound) (p : WakeEntry → Bool) :
    Wake.Sound { w with entries := w.entries.filter p } :=
  ⟨h.eta, h.berths.sublist (List.filter_sublist.map _), h.order.filter _,
    fun e he => h.entries e (List.mem_filter.mp he).1⟩

/-- An entry of a new berth takes its place in the list (R131). -/
theorem Wake.Sound.insert {w : Wake} (h : w.Sound) {e : WakeEntry} (sound : e.Sound w.stops)
    (fresh : ∀ x ∈ w.entries, e.berth ≠ x.berth) : Wake.Sound { w with entries := insertEntry w.entries e } := by
  refine ⟨h.eta, ?_, insertEntry_order h.order fresh, fun x hx => ?_⟩
  · refine ((insertEntry_perm w.entries e).map WakeEntry.berth).nodup_iff.mpr (List.nodup_cons.mpr ⟨?_, h.berths⟩)
    intro held
    obtain ⟨x, hx, same⟩ := List.mem_map.mp held
    exact fresh x hx same.symm
  · rcases List.mem_cons.mp ((insertEntry_perm _ _).mem_iff.mp hx) with rfl | old
    · exact sound
    · exact h.entries x old

/-- A stop in a new state, with entries that agree with it. -/
theorem Wake.Sound.setStop {w : Wake} (h : w.Sound) (t : StopNo) {x : Stop} (eta : x.eta ≤ 11519)
    (sound : ∀ e ∈ w.entries, e.stop = t → e.Sound (w.stops.set t x)) :
    Wake.Sound { w with stops := w.stops.set t x } := by
  refine ⟨fun u => ?_, h.berths, h.order, fun e he => ?_⟩
  · simp only [Fin.getElem_fin, Vector.getElem_set]
    split
    · exact eta
    · exact h.eta u
  · by_cases own : e.stop = t
    · exact sound e he own
    · exact (h.entries e he).other own x

/-- A stop AHEAD with a new ETA, its entries at their new due minutes and places (R126, R136). -/
theorem Wake.Sound.revise {w : Wake} (h : w.Sound) (t : StopNo) {eta : Nat} (bound : eta ≤ 11519)
    (name : Option ClipNo) :
    Wake.Sound { stops := w.stops.set t { state := .ahead, eta := eta, nameClip := name }
                 entries := reviseEntries t eta w.entries } := by
  have perm := reviseEntries_perm t eta w.entries
  have berths : (w.entries.map fun e => if e.stop = t then { e with due := dueMinute eta e.lead } else e).map
      WakeEntry.berth = w.entries.map WakeEntry.berth := by
    rw [List.map_map]
    exact List.map_congr_left fun e _ => by simp only [Function.comp_apply]; split <;> rfl
  refine ⟨fun u => ?_, ?_, ?_, fun e he => ?_⟩
  · simp only [Fin.getElem_fin, Vector.getElem_set]
    split
    · exact bound
    · exact h.eta u
  · rw [(perm.map WakeEntry.berth).nodup_iff, berths]
    exact h.berths
  · refine insertEntries_order (h.order.filter _) ?_
    rw [← ((insertEntries_perm _ _).map WakeEntry.berth).nodup_iff]
    change ((reviseEntries t eta w.entries).map WakeEntry.berth).Nodup
    rw [(perm.map WakeEntry.berth).nodup_iff, berths]
    exact h.berths
  · obtain ⟨x, hx, rfl⟩ := List.mem_map.mp (perm.mem_iff.mp he)
    dsimp only
    split
    · rename_i own
      obtain ⟨low, high, _, _, _, deferred, cycle⟩ := h.entries x hx
      refine ⟨low, high, ?_, ?_, ?_, deferred, cycle⟩ <;> simp [own]
    · rename_i other
      exact (h.entries x hx).other other _

/-! ## The acts -/

theorem evaluateWake_wake (s : State) :
    (evaluateWake s).wake =
      if s.clock.isSet then
        { s.wake with
          entries := s.wake.entries.map fun e =>
            if e.rings s.clock.journeyMinute then e.ring else e }
      else s.wake := by
  unfold evaluateWake
  split <;> simp

theorem evaluateWake_sound {s : State} (h : s.wake.Sound) : (evaluateWake s).wake.Sound := by
  rw [evaluateWake_wake]
  split
  · refine h.map (fun e => ?_) fun e _ sound => ?_
    · split <;> exact ⟨rfl, rfl⟩
    · split
      · rename_i rings
        exact sound.ring _ rings
      · exact sound
  · exact h

theorem wakeSecond_wake (s : State) :
    (wakeSecond s).wake = { s.wake with
      entries := s.wake.entries.map fun e =>
        if e.countSecond.overLimit s.settings.ringLimit then e.countSecond.miss else e.countSecond } := by
  simp [wakeSecond, List.map_map, Function.comp_def]

theorem wakeSecond_sound {s : State} (h : s.wake.Sound) : (wakeSecond s).wake.Sound := by
  rw [wakeSecond_wake]
  refine h.map (fun e => ?_) fun e _ sound => ?_
  · split <;> exact countSecond_keeps e
  · split
    · exact sound.countSecond.miss
    · exact sound.countSecond

theorem minuteTick_sound {s : State} (h : s.wake.Sound) : (minuteTick s).wake.Sound := by
  rw [minuteTick]
  exact evaluateWake_sound h

theorem secondTick_wakeSound {s : State} (h : s.wake.Sound) : (secondTick s).wake.Sound := by
  have counted : (wakeSecond (clockSecond (setClock (fun c => { c with frameCount := 0 }) s))).wake.Sound :=
    wakeSecond_sound (by simpa using h)
  unfold secondTick
  dsimp only
  split
  · exact minuteTick_sound counted
  · exact counted

theorem clockFrame_wakeSound {s : State} (h : s.wake.Sound) : (clockFrame s).wake.Sound := by
  unfold clockFrame
  split
  · split
    · exact secondTick_wakeSound h
    · exact h
  · exact h

theorem chimeFrame_sound {s : State} (h : s.wake.Sound) : (chimeFrame s).wake.Sound :=
  h.map (fun e => judge_keeps e _) fun _ _ sound => sound.judge _

theorem callPress_wake (b : Berth) (s : State) :
    (callPress b s).wake = s.wake ∨
      (callPress b s).wake = { s.wake with
        entries := s.wake.entries.map fun x => if x.berth = b then x.acknowledge else x } := by
  unfold callPress
  split
  · exact .inl rfl
  · split
    · exact .inr (by simp)
    · exact .inl rfl

theorem callPress_sound {s : State} (h : s.wake.Sound) (b : Berth) : (callPress b s).wake.Sound := by
  rcases callPress_wake b s with same | acked
  · rwa [same]
  · rw [acked]
    refine h.map (fun e => ?_) fun e _ sound => ?_
    · split <;> exact ⟨rfl, rfl⟩
    · split
      · exact sound.acknowledge
      · exact sound

theorem afterAccept_wakeSound {s : State} (h : s.wake.Sound) (b : Berth) (report press : Bool) :
    (afterAccept b report press s).wake.Sound := by
  have reported : (if report then reportChange b s else s).wake.Sound := by
    split
    · simpa using h
    · exact h
  unfold afterAccept
  dsimp only
  split
  · exact callPress_sound reported b
  · exact reported

theorem makePresent_wakeSound {s : State} (h : s.wake.Sound) (b : Berth) : (makePresent b s).wake.Sound := by
  unfold makePresent
  exact afterAccept_wakeSound (by simpa using h) _ _ _

theorem validSlot_wakeSound {s : State} (h : s.wake.Sound) (b : Berth) (status : Byte) :
    (validSlot b status s).wake.Sound := by
  unfold validSlot
  dsimp only
  split
  · exact afterAccept_wakeSound (by simpa using h) _ _ _
  · split
    · exact makePresent_wakeSound (by simpa using h) _
    · exact h

theorem slotArrives_wakeSound {s : State} (h : s.wake.Sound) (b : Berth) (slot : UpSlot) :
    (slotArrives b slot s).wake.Sound := by
  unfold slotArrives
  split
  · exact h
  · dsimp only
    split
    · split
      · exact validSlot_wakeSound (by simpa using h) _ _
      · simpa using h
    · simpa using h

theorem ringLimitEvent_sound {s : State} (h : s.wake.Sound) (b : Berth) : (ringLimitEvent b s).wake.Sound := by
  unfold ringLimitEvent
  split
  · exact h
  · split
    · refine h.map (fun e => ?_) fun e _ sound => ?_
      · split <;> exact ⟨rfl, rfl⟩
      · split
        · exact sound.miss.ringSeconds _
        · exact sound
    · exact h

/-! ## The requests -/

theorem handleClockSet_wakeSound {s : State} (h : s.wake.Sound) (day hour minute second : Byte) :
    (handleClockSet day hour minute second s).1.wake.Sound := by
  unfold handleClockSet
  split
  · exact h
  · exact evaluateWake_sound h

theorem handleStopSet_sound {s : State} (h : s.wake.Sound) (stop : Byte) (eta : BitVec 16) (name : Byte) :
    (handleStopSet stop eta name s).1.wake.Sound := by
  unfold handleStopSet
  split
  · split
    · exact h
    · exact evaluateWake_sound (h.revise _ (Nat.min_le_right _ _) _)
  · exact h

/-- A stop that is passed: its ARMED and RINGING entries become MISSED (R127). -/
theorem Wake.Sound.passed {w : Wake} (h : w.Sound) (t : StopNo) :
    Wake.Sound { stops := w.stops.set t { w.stops[t] with state := .passed }
                 entries := w.entries.map fun e => if e.live t then e.miss else e } := by
  have missed : Wake.Sound { w with entries := w.entries.map fun e => if e.live t then e.miss else e } := by
    refine h.map (fun e => ?_) fun e _ sound => ?_
    · split <;> exact ⟨rfl, rfl⟩
    · split
      · exact sound.miss
      · exact sound
  refine missed.setStop t (h.eta t) fun e he own => ?_
  obtain ⟨low, high, due, _, _, deferred, cycle⟩ := missed.entries e he
  obtain ⟨x, _, rfl⟩ := List.mem_map.mp he
  refine ⟨low, high, ?_, ?_, fun waits => ?_, deferred, cycle⟩
  · simpa [own] using due
  · simp [own]
  · split at waits
    · simp [WakeEntry.miss] at waits
    · rename_i notLive
      rw [if_neg notLive] at own
      simp [WakeEntry.live, own, waits] at notLive

theorem handleStopPassed_sound {s : State} (h : s.wake.Sound) (stop : Byte) :
    (handleStopPassed stop s).1.wake.Sound := by
  unfold handleStopPassed
  split
  · exact h
  · split
    · simp only [queueNotices_keeps]
      exact h.passed _
    · exact h

theorem handleStopClear_sound {s : State} (h : s.wake.Sound) (stop : Byte) :
    (handleStopClear stop s).1.wake.Sound := by
  unfold handleStopClear
  split
  · exact h
  · split
    · exact h
    · refine (h.filter _).setStop _ (Nat.zero_le _) fun e he own => ?_
      have other := (List.mem_filter.mp he).2
      simp [own] at other

theorem clamp_bounds {lo hi : Nat} (h : lo ≤ hi) (v : Nat) : lo ≤ clamp lo hi v ∧ clamp lo hi v ≤ hi := by
  simp only [clamp]
  omega

theorem handleWakeSet_sound {s : State} (h : s.wake.Sound) (berth stop lead : Byte) :
    (handleWakeSet berth stop lead s).1.wake.Sound := by
  unfold handleWakeSet
  split
  · rename_i b t _ _
    split
    · rename_i ahead
      obtain ⟨low, high⟩ := clamp_bounds (by decide : 5 ≤ 60) lead.toNat
      refine evaluateWake_sound ((h.filter fun x => x.berth != b).insert
        ⟨low, high, rfl, ?_, fun _ => ahead, by simp, Nat.zero_le _⟩ fun x hx same => ?_)
      · exact fun unused => by simp only [ahead, reduceCtorEq] at unused
      · have other := (List.mem_filter.mp hx).2
        simp [← same] at other
    · exact h
  · exact h

theorem wakeSound_fresh : Wake.Sound {} :=
  ⟨fun t => by simp, List.nodup_nil, .nil, by simp⟩

theorem keeps_wakeSound : Keeps fun s => s.wake.Sound := by
  constructor
  case passOn =>
    intro r p s h
    cases r
    case clockSet => exact handleClockSet_wakeSound h _ _ _ _
    case stopSet => exact handleStopSet_sound h _ _ _
    case stopPassed => exact handleStopPassed_sound h _
    case stopClear => exact handleStopClear_sound h _
    case wakeSet => exact handleWakeSet_sound h _ _ _
    case wakeCancel =>
      simp only [passOn, replied, handleWakeCancel]
      split
      · exact h
      · split
        · exact h.filter _
        · exact h
    all_goals simpa [passOn, replied] using h
  case frame =>
    intro line strobe s h
    have chimed := chimeFrame_sound (s := routeFrame (takeWaits s) (voiceFrame
      (beforeVoice line strobe s).emergency.latch (beforeVoice line strobe s).test.frameSet (beforeVoice line strobe s)))
      (by simpa [beforeVoice] using clockFrame_wakeSound (by simpa using h))
    simpa [frameWork_eq, beforeMixer] using chimed
  case powerOn => exact fun _ _ => wakeSound_fresh
  case restart => exact fun _ _ => wakeSound_fresh
  case second =>
    intro s h
    unfold secondTickEvent
    split
    · exact secondTick_wakeSound h
    · exact h
  case minute =>
    intro s h
    unfold minuteTickEvent
    split
    · exact minuteTick_sound h
    · exact h
  case ringLimit => exact fun b s h => ringLimitEvent_sound h b
  case slot => exact fun b slot s h => slotArrives_wakeSound h b slot
  case present =>
    intro b s h
    unfold berthPresentEvent
    split
    · exact makePresent_wakeSound (by simpa using h) b
    · exact h
  case field =>
    intro b f s h
    unfold fieldAcceptedEvent
    dsimp only
    split
    · exact afterAccept_wakeSound (by simpa using h) _ _ _
    · exact h
  all_goals simp

/-- Settles O59: entries take their place by insertion, and a stop that changes takes its entries with it. -/
theorem wakeListStaysSound : Obligations.WakeListStaysSound :=
  fun _ _ h e => keeps_wakeSound.step (fun _ _ h => h) h e

end Sys2Proof.Machine
end

section
/-! The voice channel's records as they stand in line (R36 to R46, R53 to R64): what every act makes of the active
record, the voice stack and the pending list, so that the order, the ids and the clips that records hold stay sound. -/

namespace Sys2Proof.Machine

/-! ## The line-up of the records -/

/-- What the order, the ids and the held clips ask of a record. -/
structure Tag where
  id     : Byte
  origin : Origin
  cls    : AnnClass

def Announcement.tag (r : Announcement) : Tag := { id := r.id, origin := r.origin, cls := r.cls }

/-- The records of the voice channel: the active one, the stack with its top first, and the pending list. -/
structure Lineup where
  active  : Option Tag
  stack   : List Tag
  waiting : List Tag

def Voice.lineup (v : Voice) : Lineup :=
  { active := v.active.map Announcement.tag
    stack := v.stack.map Announcement.tag
    waiting := v.waiting.map Announcement.tag }

/-- Every record in line. -/
def Lineup.all (l : Lineup) : List Tag := l.active.toList ++ l.stack ++ l.waiting

theorem records_tags (v : Voice) : v.records.map Announcement.tag = v.lineup.all := by
  cases h : v.active <;> simp [Voice.records, Lineup.all, Voice.lineup, h]

/-- The order of a line-up, whether or not a record holds the channel (R38, R39). -/
structure Lineup.Stacked (l : Lineup) : Prop where
  depth   : l.stack.length ≤ 3
  stack   : l.stack.Pairwise fun above below => below.cls.rank < above.cls.rank
  active  : ∀ a, l.active = some a → ∀ t ∈ l.stack, t.cls.rank < a.cls.rank
  pending : l.waiting.length ≤ 16
  order   : l.waiting.Pairwise fun ahead behind => behind.cls.rank ≤ ahead.cls.rank

/-- An idle channel has an empty stack (R39). -/
def Lineup.Settled (l : Lineup) : Prop := l.active = none → l.stack = []

theorem ordered_iff (v : Voice) : v.Ordered ↔ v.lineup.Stacked ∧ v.lineup.Settled := by
  constructor
  · rintro ⟨depth, stack, active, idle, pending, order⟩
    refine ⟨⟨by simpa [Voice.lineup] using depth, List.pairwise_map.mpr stack, fun a ha t ht => ?_,
      by simpa [Voice.lineup] using pending, List.pairwise_map.mpr order⟩, fun none => ?_⟩
    · obtain ⟨r, hr, rfl⟩ := Option.map_eq_some_iff.mp ha
      obtain ⟨x, hx, rfl⟩ := List.mem_map.mp ht
      exact active r hr x hx
    · simp [Voice.lineup, idle (Option.map_eq_none_iff.mp none)]
  · rintro ⟨⟨depth, stack, active, pending, order⟩, settled⟩
    refine ⟨by simpa [Voice.lineup] using depth, List.pairwise_map.mp stack, fun a ha r hr => ?_, fun none => ?_,
      by simpa [Voice.lineup] using pending, List.pairwise_map.mp order⟩
    · exact active a.tag (by simp [Voice.lineup, ha]) r.tag (List.mem_map_of_mem hr)
    · exact List.map_eq_nil_iff.mp (settled (by simp [Voice.lineup, none]))

theorem idsUnique_iff (v : Voice) : v.IdsUnique ↔ (v.lineup.all.map Tag.id).Nodup := by
  rw [← records_tags, List.map_map]
  rfl

/-! ## Ranks and depth -/

theorem rank_bounds (k : AnnClass) : 1 ≤ k.rank ∧ k.rank ≤ 4 := by
  cases k <;> decide

/-- Records of strictly rising class below a bound are fewer than the bound (R36, R39). -/
theorem length_lt_of_rising {l : List Tag} {n : Nat} (rising : l.Pairwise fun above below => below.cls.rank < above.cls.rank)
    (below : ∀ t ∈ l, t.cls.rank ≤ n) : l.length ≤ n := by
  induction l generalizing n with
  | nil => exact Nat.zero_le _
  | cons t l ih =>
    obtain ⟨first, rest⟩ := List.pairwise_cons.mp rising
    have top := below t (List.mem_cons_self ..)
    have low := (rank_bounds t.cls).1
    have shorter : l.length ≤ n - 1 := ih rest fun u hu => by have := first u hu; omega
    simp only [List.length_cons]
    omega

/-! ## What an act makes of the line-up -/

/-- An act leads from one line-up to the next: the order stays, and every record was in line before or is one that
may join. -/
structure Lineup.Next (joins : Tag → Prop) (l m : Lineup) : Prop where
  stacked : l.Stacked → l.Settled → m.Stacked ∧ m.Settled
  tags    : m.all.Subperm l.all ∨ ∃ t, joins t ∧ m.all.Subperm (t :: l.all)

/-- A part of an act that leaves the channel to be filled: no record joins. -/
structure Lineup.Part (l m : Lineup) : Prop where
  stacked : l.Stacked → m.Stacked
  tags    : m.all.Subperm l.all

theorem Lineup.Part.refl (l : Lineup) : Lineup.Part l l := ⟨id, .refl _⟩

theorem Lineup.Part.trans {l m n : Lineup} (h : l.Part m) (k : m.Part n) : l.Part n :=
  ⟨fun s => k.stacked (h.stacked s), k.tags.trans h.tags⟩

/-- A whole act in which no record joins. -/
structure Lineup.Moves (l m : Lineup) : Prop where
  stacked : l.Stacked → l.Settled → m.Stacked ∧ m.Settled
  tags    : m.all.Subperm l.all

theorem Lineup.Moves.refl (l : Lineup) : l.Moves l := ⟨And.intro, .refl _⟩

theorem Lineup.Moves.trans {l m n : Lineup} (h : l.Moves m) (k : m.Moves n) : l.Moves n :=
  ⟨fun s t => k.stacked (h.stacked s t).1 (h.stacked s t).2, k.tags.trans h.tags⟩

theorem Lineup.Part.moves {l m : Lineup} (h : l.Part m) (settled : l.Settled → m.Settled) : l.Moves m :=
  ⟨fun s t => ⟨h.stacked s, settled t⟩, h.tags⟩

theorem Lineup.Moves.next {l m : Lineup} (h : l.Moves m) (joins : Tag → Prop) : l.Next joins m :=
  ⟨h.stacked, .inl h.tags⟩

/-- The active record ends (R50, R52, R54). -/
theorem Lineup.part_end (l : Lineup) : l.Part { l with active := none } := by
  refine ⟨fun h => ⟨h.depth, h.stack, by simp, h.pending, h.order⟩, ?_⟩
  refine List.Sublist.subperm ?_
  simp [Lineup.all]

/-- The top of the stack leaves it (R39, R46). -/
theorem Lineup.part_pop {l : Lineup} {t : Tag} {below : List Tag} (top : l.stack = t :: below) :
    l.Part { l with stack := below } := by
  refine ⟨fun h => ?_, ?_⟩
  · have depth := h.depth
    have stack := h.stack
    rw [top] at depth stack
    exact ⟨(Nat.le_succ _).trans depth, (List.pairwise_cons.mp stack).2,
      fun a ha u hu => h.active a ha u (by simp [top, hu]), h.pending, h.order⟩
  · refine List.Sublist.subperm ?_
    simp [Lineup.all, top]

/-- The top of the stack takes the idle channel (R46). -/
theorem Lineup.part_resume {l : Lineup} {t : Tag} {below : List Tag} (idle : l.active = none)
    (top : l.stack = t :: below) : l.Part { l with active := some t, stack := below } := by
  refine ⟨fun h => ?_, ?_⟩
  · have popped := ((Lineup.part_pop top).stacked h)
    have stack := h.stack
    rw [top] at stack
    refine ⟨popped.depth, popped.stack, ?_, h.pending, h.order⟩
    rintro a ⟨rfl⟩
    exact (List.pairwise_cons.mp stack).1
  · refine List.Perm.subperm ?_
    simp [Lineup.all, top, idle]

theorem Lineup.head_tags {l : Lineup} {t : Tag} {rest : List Tag} (idle : l.active = none)
    (head : l.waiting = t :: rest) : (Lineup.all { l with active := some t, waiting := rest }).Subperm l.all := by
  refine List.Perm.subperm ?_
  simpa [Lineup.all, head, idle] using List.perm_middle.symm

/-- The pending head, of a higher class than the stack, takes the idle channel (R44, R46). -/
theorem Lineup.part_head {l : Lineup} {t : Tag} {rest : List Tag} (idle : l.active = none)
    (head : l.waiting = t :: rest) (above : l.Stacked → ∀ u ∈ l.stack, u.cls.rank < t.cls.rank) :
    l.Part { l with active := some t, waiting := rest } := by
  refine ⟨fun h => ?_, ?_⟩
  · have pending := h.pending
    have order := h.order
    rw [head] at pending order
    refine ⟨h.depth, h.stack, ?_, by simp only [List.length_cons] at pending; dsimp only; omega,
      (List.pairwise_cons.mp order).2⟩
    rintro a ⟨rfl⟩
    exact above h
  · exact Lineup.head_tags idle head

/-- A record of a higher class pushes the active one onto the stack, which keeps room by its rising classes (R42). -/
theorem Lineup.Stacked.push {l : Lineup} {a t : Tag} (h : l.Stacked) (active : l.active = some a)
    (above : a.cls.rank < t.cls.rank) (waiting : List Tag) (pending : waiting.length ≤ 16)
    (order : waiting.Pairwise fun ahead behind => behind.cls.rank ≤ ahead.cls.rank) :
    Lineup.Stacked { active := some t, stack := a :: l.stack, waiting := waiting } := by
  have rising : (a :: l.stack).Pairwise fun above below => below.cls.rank < above.cls.rank :=
    List.pairwise_cons.mpr ⟨h.active a active, h.stack⟩
  have below : ∀ u ∈ a :: l.stack, u.cls.rank < t.cls.rank := by
    intro u hu
    rcases List.mem_cons.mp hu with rfl | deeper
    · exact above
    · exact (h.active a active u deeper).trans above
  refine ⟨length_lt_of_rising rising fun u hu => ?_, rising, ?_, pending, order⟩
  · have := below u hu
    have := (rank_bounds t.cls).2
    omega
  · rintro x ⟨rfl⟩
    exact below

/-- The pending head preempts the active record (R44). -/
theorem Lineup.part_preempt {l : Lineup} {a t : Tag} {rest : List Tag} (active : l.active = some a)
    (head : l.waiting = t :: rest) (above : a.cls.rank < t.cls.rank) :
    l.Part { active := some t, stack := a :: l.stack, waiting := rest } := by
  refine ⟨fun h => ?_, ?_⟩
  · have pending := h.pending
    have order := h.order
    rw [head] at pending order
    exact h.push active above rest (by simp only [List.length_cons] at pending; omega)
      (List.pairwise_cons.mp order).2
  · refine List.Perm.subperm ?_
    have moved : ([t] ++ (a :: l.stack ++ rest)).Perm ((a :: l.stack) ++ ([t] ++ rest)) := List.perm_append_comm_assoc ..
    simpa [Lineup.all, head, active] using moved

/-- A part of the pending list leaves it (R55). -/
theorem Lineup.part_filter (l : Lineup) {waiting : List Tag} (fewer : waiting.Sublist l.waiting) :
    l.Part { l with waiting := waiting } :=
  ⟨fun h => ⟨h.depth, h.stack, h.active, fewer.length_le.trans h.pending, h.order.sublist fewer⟩,
    (List.Sublist.append_left fewer _).subperm⟩

/-! ## Joining the pending list -/

/-- The place of a record in the pending list (R38). -/
def insertTag (list : List Tag) (t : Tag) : List Tag :=
  match list with
  | [] => [t]
  | h :: rest => if h.cls.rank < t.cls.rank then t :: h :: rest else h :: insertTag rest t

theorem insertWaiting_tags (list : List Announcement) (r : Announcement) :
    (insertWaiting list r).map Announcement.tag = insertTag (list.map Announcement.tag) r.tag := by
  induction list with
  | nil => rfl
  | cons h rest ih =>
    unfold insertWaiting
    rw [List.map_cons, insertTag]
    by_cases lower : h.cls.rank < r.cls.rank
    · rw [if_pos lower, if_pos (show h.tag.cls.rank < r.tag.cls.rank from lower)]
      rfl
    · rw [if_neg lower, if_neg (show ¬ h.tag.cls.rank < r.tag.cls.rank from lower), List.map_cons, ih]

theorem insertTag_perm (list : List Tag) (t : Tag) : (insertTag list t).Perm (t :: list) := by
  induction list with
  | nil => exact .refl _
  | cons h rest ih =>
    unfold insertTag
    split
    · exact .refl _
    · exact (ih.cons h).trans (.swap t h rest)

theorem insertTag_order {list : List Tag} (t : Tag)
    (h : list.Pairwise fun ahead behind => behind.cls.rank ≤ ahead.cls.rank) :
    (insertTag list t).Pairwise fun ahead behind => behind.cls.rank ≤ ahead.cls.rank := by
  induction list with
  | nil => exact List.pairwise_singleton _ _
  | cons x list ih =>
    obtain ⟨first, rest⟩ := List.pairwise_cons.mp h
    unfold insertTag
    split
    · rename_i lower
      exact .cons (List.forall_mem_cons.mpr ⟨lower.le, fun y hy => (first y hy).trans lower.le⟩) h
    · rename_i notLower
      refine .cons (fun y hy => ?_) (ih rest)
      rcases List.mem_cons.mp ((insertTag_perm list t).mem_iff.mp hy) with rfl | old
      · omega
      · exact first y old

/-- A record joins the pending list, which has room (R38, R42). -/
theorem Lineup.next_join {joins : Tag → Prop} (l : Lineup) {t : Tag} (may : joins t) (room : l.waiting.length < 16) :
    l.Next joins { l with waiting := insertTag l.waiting t } := by
  refine ⟨fun h settled => ⟨⟨h.depth, h.stack, h.active, ?_, insertTag_order t h.order⟩, settled⟩, .inr ⟨t, may, ?_⟩⟩
  · simp only [(insertTag_perm l.waiting t).length_eq, List.length_cons]
    omega
  · refine List.Perm.subperm ?_
    exact ((insertTag_perm l.waiting t).append_left _).trans List.perm_middle

/-- A record takes the idle channel (R42). -/
theorem Lineup.next_take {joins : Tag → Prop} (l : Lineup) {t : Tag} (may : joins t) (idle : l.active = none) :
    l.Next joins { l with active := some t } := by
  refine ⟨fun h settled => ⟨⟨h.depth, h.stack, ?_, h.pending, h.order⟩, fun none => by simp at none⟩,
    .inr ⟨t, may, ?_⟩⟩
  · rintro a ⟨rfl⟩
    simp [settled idle]
  · refine List.Perm.subperm ?_
    simp [Lineup.all, idle]

/-- A record of a higher class than the active one takes the channel from it (R42). -/
theorem Lineup.next_push {joins : Tag → Prop} (l : Lineup) {a t : Tag} (may : joins t) (active : l.active = some a)
    (above : a.cls.rank < t.cls.rank) :
    l.Next joins { l with active := some t, stack := a :: l.stack } := by
  refine ⟨fun h _ => ⟨h.push active above _ h.pending h.order, fun none => by simp at none⟩, .inr ⟨t, may, ?_⟩⟩
  refine List.Perm.subperm ?_
  simp [Lineup.all, active]

/-! ## The voice channel's own acts -/

@[simp] theorem lineup_queueNotice (n : Notice) (s : State) : (queueNotice n s).voice.lineup = s.voice.lineup := rfl

theorem startRepeat_lineup (r : Announcement) (s : State) :
    (startRepeat r s).voice.lineup = { s.voice.lineup with active := some r.tag } := by
  unfold startRepeat
  split <;> rfl

theorem rearm_lineup (s : State) : (rearm s).voice.lineup = s.voice.lineup := by
  unfold rearm
  split <;> rfl

theorem popped_lineup (rest : List Announcement) (s : State) :
    (popped rest s).voice.lineup = { s.voice.lineup with stack := rest.map Announcement.tag } := by
  rw [popped, rearm_lineup]
  rfl

theorem stackLimitMet_lineup (r : Announcement) (s : State) : (stackLimitMet r s).voice.lineup = s.voice.lineup := by
  unfold stackLimitMet
  split <;> rfl

theorem joinWaiting_lineup (r : Announcement) (s : State) :
    (joinWaiting r s).voice.lineup =
      { s.voice.lineup with waiting := insertTag s.voice.lineup.waiting r.tag } := by
  simp [joinWaiting, Voice.lineup, insertWaiting_tags]

theorem takeChannel_lineup (r : Announcement) (s : State) :
    (takeChannel r s).voice.lineup = { s.voice.lineup with active := some r.tag } := rfl

theorem takeHead_lineup (h : Announcement) (rest : List Announcement) (s : State) :
    (takeHead h rest s).voice.lineup =
      { s.voice.lineup with active := some h.tag, waiting := rest.map Announcement.tag } := rfl

/-- A record may join: its id is free, and variant 0 of its clip is READY (R40, R41). -/
def Joins (s : State) (t : Tag) : Prop :=
  (∀ x ∈ s.voice.lineup.all, x.id ≠ t.id) ∧ ∀ c, t.origin = .clip c → (s.clips.variant c 0).state = .ready

/-- Placement (R42) keeps the line-up in order, when the pending list has room where it is needed. -/
theorem place_next {r : Announcement} {s : State} (may : Joins s r.tag)
    (room : placesPending r s = true → s.voice.waiting.length < 16) :
    s.voice.lineup.Next (Joins s) (place r s).1.voice.lineup := by
  have join (pending : placesPending r s = true) :
      s.voice.lineup.Next (Joins s) (joinWaiting r s).voice.lineup := by
    rw [joinWaiting_lineup]
    exact Lineup.next_join _ may (by simpa [Voice.lineup] using room pending)
  unfold place
  split
  · rename_i latched
    exact join (by simp [placesPending, latched])
  · split <;> rename_i active
    · exact Lineup.next_take _ may (by simp [Voice.lineup, active])
    · split <;> rename_i above
      · split <;> rename_i deep
        · exact Lineup.next_push _ may (by simp [Voice.lineup, active]) above
        · rw [stackLimitMet_lineup]
          exact join (by simp [placesPending, active, deep])
      · exact join (by simp [placesPending, active, above])

/-- The preemption check (R44) moves the pending head alone. -/
theorem preemptionCheck_moves (s : State) : s.voice.lineup.Moves (preemptionCheck s).voice.lineup := by
  unfold preemptionCheck
  split
  · exact .refl _
  · rename_i h rest waiting
    have head : s.voice.lineup.waiting = h.tag :: rest.map Announcement.tag := by simp [Voice.lineup, waiting]
    dsimp only
    split <;> rename_i active
    · have idle : s.voice.lineup.active = none := by simp [Voice.lineup, active]
      have part := Lineup.part_head idle head
      exact ⟨fun stacked settled => ⟨(part fun _ => by simp [settled idle]).stacked stacked, fun none => by cases none⟩,
        Lineup.head_tags idle head⟩
    · split
      · rename_i able
        exact (Lineup.part_preempt (by simp [Voice.lineup, active]) head able.1).moves fun _ none => by cases none
      · exact .refl _

/-- Popping the top of a freed channel's stack, which ends at once or takes the channel (step 2 of R46). -/
theorem reselect_pop {n : Nat} {s : State} {t : Announcement} {below : List Announcement}
    (idle : s.voice.active = none) (stack : s.voice.stack = t :: below)
    (rest : ∀ u : State, u.voice.active = none → u.voice.stack = below →
      u.voice.lineup.Part (reselectFor n u).voice.lineup ∧ (reselectFor n u).voice.lineup.Settled)
    {m : State} (step : m = match poppedEnd t with
      | some reason => reselectFor n (endNotice t.id reason (popped below s))
      | none => takeChannel t (popped below s)) :
    s.voice.lineup.Part m.voice.lineup ∧ m.voice.lineup.Settled := by
  have free : s.voice.lineup.active = none := by simp [Voice.lineup, idle]
  have top : s.voice.lineup.stack = t.tag :: below.map Announcement.tag := by simp [Voice.lineup, stack]
  subst step
  split
  · rename_i reason _
    have part : s.voice.lineup.Part (endNotice t.id reason (popped below s)).voice.lineup := by
      rw [endNotice, lineup_queueNotice, popped_lineup]
      exact Lineup.part_pop top
    have left : (popped below s).voice.active = none ∧ (popped below s).voice.stack = below := by
      unfold popped rearm
      split <;> exact ⟨idle, rfl⟩
    obtain ⟨onward, settled⟩ := rest (endNotice t.id reason (popped below s)) left.1 left.2
    exact ⟨part.trans onward, settled⟩
  · rw [takeChannel_lineup, popped_lineup]
    exact ⟨Lineup.part_resume free top, fun none => by cases none⟩

/-- Reselection (R46) fills a freed channel, or leaves an empty line. -/
theorem reselectFor_part (n : Nat) (s : State) (idle : s.voice.active = none) (enough : s.voice.stack.length < n) :
    s.voice.lineup.Part (reselectFor n s).voice.lineup ∧ (reselectFor n s).voice.lineup.Settled := by
  induction n generalizing s with
  | zero => omega
  | succ n ih =>
    have free : s.voice.lineup.active = none := by simp [Voice.lineup, idle]
    have headTakes {h rest} (waiting : s.voice.waiting = h :: rest)
        (above : s.voice.lineup.Stacked → ∀ u ∈ s.voice.lineup.stack, u.cls.rank < h.cls.rank) :
        s.voice.lineup.Part (takeHead h rest s).voice.lineup ∧ (takeHead h rest s).voice.lineup.Settled := by
      rw [takeHead_lineup]
      exact ⟨Lineup.part_head free (by simp [Voice.lineup, waiting]) above, fun none => by cases none⟩
    have topPops {t below} (stack : s.voice.stack = t :: below) (u : State) (ui : u.voice.active = none)
        (us : u.voice.stack = below) :
        u.voice.lineup.Part (reselectFor n u).voice.lineup ∧ (reselectFor n u).voice.lineup.Settled :=
      ih u ui (by rw [stack, List.length_cons] at enough; rw [us]; omega)
    cases waiting : s.voice.waiting with
    | nil =>
      cases stack : s.voice.stack with
      | nil =>
        simp only [reselectFor, waiting, stack, pick]
        exact ⟨.refl _, fun _ => by simp [Voice.lineup, stack]⟩
      | cons t below =>
        exact reselect_pop idle stack (topPops stack) (by simp only [reselectFor, waiting, stack, pick] <;> rfl)
    | cons h rest =>
      cases stack : s.voice.stack with
      | nil =>
        simp only [reselectFor, waiting, stack, pick]
        exact headTakes waiting (by simp [Voice.lineup, stack])
      | cons t below =>
        by_cases above : t.cls.rank < h.cls.rank
        · simp only [reselectFor, waiting, stack, pick, if_pos above]
          refine headTakes waiting fun stacked u hu => ?_
          have top : s.voice.lineup.stack = t.tag :: below.map Announcement.tag := by simp [Voice.lineup, stack]
          have rising := stacked.stack
          rw [top] at hu rising
          rcases List.mem_cons.mp hu with rfl | deeper
          · exact above
          · exact ((List.pairwise_cons.mp rising).1 u deeper).trans above
        · exact reselect_pop idle stack (topPops stack)
            (by simp only [reselectFor, waiting, stack, pick, if_neg above] <;> rfl)

/-- An act that may leave the channel free, filled by reselection. -/
theorem reselectIfFreed_moves {l : Lineup} {t : State} {had : Bool} (part : l.Part t.voice.lineup)
    (freed : had = false → l.Settled → t.voice.lineup.Settled) :
    l.Moves (reselectIfFreed had t).voice.lineup := by
  unfold reselectIfFreed
  split
  · rename_i filled
    have idle : t.voice.active = none := by simp at filled; exact filled.2
    obtain ⟨rest, settled⟩ := reselectFor_part _ t idle (Nat.lt_succ_self _)
    exact (part.trans rest).moves fun _ => settled
  · rename_i kept
    refine part.moves fun settled none => ?_
    cases had
    · exact freed rfl settled none
    · have idle : t.voice.active = Option.none := Option.map_eq_none_iff.mp none
      simp [idle] at kept

/-- The active record in a new state of progress is the same record in line. -/
theorem refresh_lineup {s t : State} {r r' : Announcement} (active : s.voice.active = some r)
    (now : t.voice.active = some r') (same : r'.tag = r.tag) (stack : t.voice.stack = s.voice.stack)
    (waiting : t.voice.waiting = s.voice.waiting) : t.voice.lineup = s.voice.lineup := by
  simp [Voice.lineup, active, now, same, stack, waiting]

theorem refresh_part {s t : State} {r r' : Announcement} (active : s.voice.active = some r)
    (now : t.voice.active = some r') (same : r'.tag = r.tag) (stack : t.voice.stack = s.voice.stack)
    (waiting : t.voice.waiting = s.voice.waiting) : s.voice.lineup.Part t.voice.lineup := by
  rw [refresh_lineup active now same stack waiting]
  exact .refl _

section
variable {s : State} {r : Announcement}

theorem startRepeat_refresh {r' : Announcement} (active : s.voice.active = some r) (same : r'.tag = r.tag) :
    (startRepeat r' s).voice.lineup = s.voice.lineup := by
  rw [startRepeat_lineup, same]
  simp [Voice.lineup, active]

theorem startRepeat_part {r' : Announcement} (active : s.voice.active = some r) (same : r'.tag = r.tag) :
    s.voice.lineup.Part (startRepeat r' s).voice.lineup := by
  rw [startRepeat_refresh active same]
  exact .refl _

theorem endActive_part (reason : EndReason) (r : Announcement) (s : State) :
    s.voice.lineup.Part (endActive reason r s).voice.lineup := Lineup.part_end _

theorem dueEnds_part (s : State) : s.voice.lineup.Part (dueEnds s).voice.lineup := by
  unfold dueEnds
  split
  · exact .refl _
  · split
    · exact endActive_part _ _ s
    · split
      · exact endActive_part _ _ s
      · exact .refl _

theorem repeatOver_part {r' : Announcement} (active : s.voice.active = some r) (same : r'.tag = r.tag) :
    s.voice.lineup.Part (repeatOver r' s).voice.lineup := by
  unfold repeatOver
  split
  · exact endActive_part _ _ s
  · split
    · exact refresh_part active rfl same rfl rfl
    · exact startRepeat_part active same

theorem playing_active (h : playing s = some r) : s.voice.active = some r := by
  unfold playing at h
  split at h
  · cases h
  · split at h
    · cases h
    · rename_i active _
      cases h
      exact active

theorem accountFrame_part (s : State) : s.voice.lineup.Part (accountFrame s).voice.lineup := by
  unfold accountFrame
  split
  · exact .refl _
  · rename_i r plays
    have active := playing_active plays
    split
    · unfold playedClip
      dsimp only
      split
      · exact repeatOver_part active rfl
      · exact refresh_part active rfl rfl rfl rfl
    · unfold playedGap
      dsimp only
      split
      · exact startRepeat_part active rfl
      · exact refresh_part active rfl rfl rfl rfl
    · unfold playedLive
      dsimp only
      split
      · split
        · exact endActive_part _ _ s
        · exact refresh_part active rfl rfl rfl rfl
      · exact refresh_part active rfl rfl rfl rfl

theorem startActive_lineup (s : State) : (startActive s).voice.lineup = s.voice.lineup := by
  unfold startActive
  split
  · rfl
  · rename_i r active
    split
    · dsimp only
      rw [lineup_queueNotice]
      split
      · exact startRepeat_refresh active rfl
      · exact refresh_lineup active rfl rfl rfl rfl
    · rfl

theorem thaw_lineup (s : State) : (thaw s).voice.lineup = s.voice.lineup := by
  unfold thaw
  split
  · rfl
  · rename_i r active
    split
    · rfl
    · split
      · exact startRepeat_refresh active rfl
      · rfl

/-- With no active record no end is due and no frame is accounted. -/
theorem accountFrame_idle (idle : s.voice.active = none) : accountFrame (dueEnds s) = s := by
  simp only [dueEnds, idle, accountFrame, playing]

theorem latchStep_moves (latch : Bool) (s : State) : s.voice.lineup.Moves (latchStep latch s).voice.lineup := by
  unfold latchStep
  split
  · exact .refl _
  · split
    · rw [startActive_lineup, ← thaw_lineup s]
      exact preemptionCheck_moves _
    · rw [startActive_lineup]
      exact .refl _

/-- The channel's work at a lane frame start (R57). -/
theorem voiceFrame_moves (latch : Bool) (set : BerthSet) (s : State) :
    s.voice.lineup.Moves (voiceFrame latch set s).voice.lineup := by
  have turned : s.voice.lineup.Part (accountFrame (dueEnds (setVoice Voice.turnMics s))).voice.lineup :=
    (dueEnds_part (setVoice Voice.turnMics s)).trans (accountFrame_part _)
  have filled := reselectIfFreed_moves (had := s.voice.active.isSome) turned fun none settled => by
    have idle : s.voice.active = Option.none := by simpa using none
    rw [accountFrame_idle (s := setVoice Voice.turnMics s) idle]
    exact settled
  exact filled.trans (latchStep_moves latch _)

/-! ## The events -/

theorem progress_moves {act : State → State} (acts : s.voice.lineup.Part (act s).voice.lineup) (r : Announcement) :
    s.voice.lineup.Moves (progress r act s).voice.lineup := by
  unfold progress
  refine reselectIfFreed_moves ?_ (by simp)
  split
  · exact dueEnds_part s
  · exact acts

theorem repeatEndEvent_moves (s : State) : s.voice.lineup.Moves (repeatEndEvent s).voice.lineup := by
  unfold repeatEndEvent
  split
  · exact .refl _
  · rename_i r plays
    split
    · exact progress_moves
        (repeatOver_part (r' := { r with framesPlayed := repeatLength s.voice.readers }) (playing_active plays) rfl) r
    · exact .refl _

theorem gapEndEvent_moves (s : State) : s.voice.lineup.Moves (gapEndEvent s).voice.lineup := by
  unfold gapEndEvent
  split
  · exact .refl _
  · rename_i r plays
    split
    · exact progress_moves (startRepeat_part (r' := { r with gapLeft := 0 }) (playing_active plays) rfl) r
    · exact .refl _

theorem liveTimeoutEvent_moves (s : State) : s.voice.lineup.Moves (liveTimeoutEvent s).voice.lineup := by
  unfold liveTimeoutEvent
  split
  · exact .refl _
  · split
    · exact progress_moves (endActive_part _ _ s) _
    · exact .refl _

end

/-! ## Announcements that join -/

theorem idHeld_iff (v : Voice) (id : Byte) : idHeld v id = true ↔ ∃ t ∈ v.lineup.all, t.id = id := by
  rw [← records_tags]
  simp [idHeld, Announcement.tag]

theorem id_free {v : Voice} {id : Byte} (h : ¬ idHeld v id = true) : ∀ t ∈ v.lineup.all, t.id ≠ id :=
  fun t ht same => h ((idHeld_iff v id).mpr ⟨t, ht, same⟩)

/-- An act leads from one state to another whose line-up is the same, changed in part, or joined by a record. -/
def VoiceNext (s t : State) : Prop := s.voice.lineup.Next (Joins s) t.voice.lineup

theorem VoiceNext.of_moves {s t : State} (h : s.voice.lineup.Moves t.voice.lineup) : VoiceNext s t := h.next _

theorem VoiceNext.of_lineup {s t : State} (h : t.voice.lineup = s.voice.lineup) : VoiceNext s t := by
  rw [VoiceNext, h]
  exact (Lineup.Moves.refl _).next _

theorem VoiceNext.of_voice {s t : State} (h : t.voice = s.voice) : VoiceNext s t := .of_lineup (by rw [h])

/-- What comes before an act and leaves the voice channel and the clips alone makes no difference. -/
theorem VoiceNext.after {s u t : State} (h : VoiceNext u t) (voice : u.voice = s.voice) (clips : u.clips = s.clips) :
    VoiceNext s t := by
  unfold VoiceNext Joins at h ⊢
  rwa [voice, clips] at h

/-- An automatic announcement (R64) joins with a free id and a READY clip, or nothing happens. -/
theorem autoAnnounce_next (b : Berth) (name : Option ClipNo) (s : State) :
    VoiceNext s (autoAnnounce b name s).1 := by
  unfold autoAnnounce
  split
  · exact .of_voice rfl
  · rename_i c playable
    split
    · exact .of_voice rfl
    · rename_i id free
      dsimp only
      split
      · exact .of_voice rfl
      · rename_i room
        have unheld : ¬ idHeld s.voice id = true := by simpa using List.find?_some free
        refine place_next ⟨id_free unheld, ?_⟩ fun pending => ?_
        · rintro c' ⟨rfl⟩
          unfold playableName at playable
          split at playable
          · cases playable
          · split at playable
            · rename_i ready
              cases playable
              simpa [variantReady] using ready
            · cases playable
        · simp only [pending, waitingCapacity, Bool.true_and, Bool.not_eq_true] at room
          exact Nat.lt_of_not_le (of_decide_eq_false room)

theorem callPress_next (b : Berth) (s : State) : VoiceNext s (callPress b s) := by
  unfold callPress
  split
  · exact .of_voice rfl
  · rename_i e _
    split
    · have asked := autoAnnounce_next b s.wake.stops[e.stop].nameClip
        (setEntries (fun es => es.map fun x => if x.berth = b then x.acknowledge else x) s)
      exact asked.after rfl rfl
    · exact .of_voice rfl

theorem afterAccept_next (b : Berth) (report press : Bool) (s : State) :
    VoiceNext s (afterAccept b report press s) := by
  have reported : (if report then reportChange b s else s).voice = s.voice ∧
      (if report then reportChange b s else s).clips = s.clips := by
    split <;> simp
  unfold afterAccept
  dsimp only
  split
  · exact (callPress_next b _).after reported.1 reported.2
  · exact .of_voice reported.1

theorem makePresent_next (b : Berth) (s : State) : VoiceNext s (makePresent b s) :=
  (afterAccept_next b _ _ _).after rfl rfl

theorem validSlot_next (b : Berth) (status : Byte) (s : State) : VoiceNext s (validSlot b status s) := by
  unfold validSlot
  dsimp only
  split
  · exact (afterAccept_next b _ _ _).after rfl rfl
  · split
    · exact (makePresent_next b _).after rfl rfl
    · exact .of_voice rfl

theorem slotArrives_next (b : Berth) (slot : UpSlot) (s : State) : VoiceNext s (slotArrives b slot s) := by
  unfold slotArrives
  split
  · exact .of_voice rfl
  · dsimp only
    split
    · split
      · exact (validSlot_next b _ _).after (by simp) (by simp)
      · exact .of_voice (by simp)
    · exact .of_voice (by simp)

theorem handleAnnounce_next (id cls origin clip : Byte) (set : BerthSet) (n card : Byte) (s : State) :
    VoiceNext s (handleAnnounce id cls origin clip set n card s).1 := by
  unfold handleAnnounce
  split
  · exact .of_voice rfl
  · split
    · rename_i o _ _ _ _
      split
      · exact .of_voice rfl
      · split
        · exact .of_voice rfl
        · rename_i unheld
          split
          · exact .of_voice rfl
          · rename_i present
            dsimp only
            split
            · exact .of_voice rfl
            · rename_i room
              refine place_next ⟨id_free unheld, fun c isClip => ?_⟩ fun pending => ?_
              · have fromClip : o = .clip c := isClip
                simpa [clipMissing, fromClip, variantReady] using present
              · simp only [pending, waitingCapacity, Bool.true_and, Bool.not_eq_true] at room
                exact Nat.lt_of_not_le (of_decide_eq_false room)
    · exact .of_voice rfl

theorem handleAnnEnd_lineup (id : Byte) (s : State) : (handleAnnEnd id s).1.voice.lineup = s.voice.lineup := by
  unfold handleAnnEnd
  split
  · rename_i r active
    split
    · split
      · rfl
      · dsimp only
        split
        · exact refresh_lineup active rfl rfl rfl rfl
        · exact refresh_lineup active rfl rfl rfl rfl
    · split <;> rfl
  · split <;> rfl

theorem markStack_tags (stack : List Announcement) (id : Byte) :
    (markStack stack id).map Announcement.tag = stack.map Announcement.tag := by
  rw [markStack, List.map_map]
  refine List.map_congr_left fun r _ => ?_
  simp only [Function.comp_apply]
  split <;> rfl

theorem withdrawOther_moves (id : Byte) (s : State) :
    s.voice.lineup.Moves (withdrawOther id s).1.voice.lineup := by
  unfold withdrawOther
  split
  · split
    · exact .refl _
    · have same : (setVoice (fun v => { v with stack := markStack v.stack id }) s).voice.lineup = s.voice.lineup := by
        simp [Voice.lineup, markStack_tags]
      dsimp only
      rw [same]
      exact .refl _
  · split
    · exact (Lineup.part_filter _ (List.filter_sublist.map _)).moves fun settled => settled
    · exact .refl _

theorem handleAnnWithdraw_moves (id : Byte) (s : State) :
    s.voice.lineup.Moves (handleAnnWithdraw id s).1.voice.lineup := by
  unfold handleAnnWithdraw
  split
  · rename_i r active
    split
    · split
      · exact .refl _
      · have same : (setVoice (fun v => { v with active := some { r with withdrawn := true } }) s).voice.lineup =
            s.voice.lineup := refresh_lineup active rfl rfl rfl rfl
        dsimp only
        rw [same]
        exact .refl _
    · exact withdrawOther_moves id s
  · exact withdrawOther_moves id s

theorem depthLimitChanged_moves (old : Nat) (s : State) :
    s.voice.lineup.Moves (depthLimitChanged old s).voice.lineup := by
  unfold depthLimitChanged
  dsimp only
  rw [← rearm_lineup s]
  split
  · exact preemptionCheck_moves _
  · exact .refl _

theorem handleSettingSet_moves (n : Byte) (value : BitVec 16) (s : State) :
    s.voice.lineup.Moves (handleSettingSet n value s).1.voice.lineup := by
  unfold handleSettingSet
  split
  · exact .refl _
  · rename_i i _
    unfold settingEffects
    dsimp only
    split
    case h_3 =>
      exact depthLimitChanged_moves _ { s with settings := s.settings.put i (clampSetting i value.toNat) }
    all_goals
      simp only [evaluateNight_keeps, autoSnapshotChanged_keeps]
      exact .refl _

/-! ## Every act -/

/-- What the line-up keeps from act to act, with the clips that its records hold: it is enough to look at the acts that
change the line-up, at the clip requests and at the resets. -/
theorem keeps_of_voice {P : State → Prop} (next : ∀ s t, VoiceNext s t → t.clips = s.clips → P s → P t)
    (opened : ∀ clip variant count s, P s → P (handleClipOpen clip variant count s).1)
    (stored : ∀ clip variant offset count samples s, P s → P (handleClipData clip variant offset count samples s).1)
    (aborted : ∀ clip variant s, P s → P (handleClipAbort clip variant s).1)
    (deleted : ∀ clip s, P s → P (handleClipDelete clip s).1)
    (fresh : ∀ s : State, s.voice = {} → P s) : Keeps P := by
  constructor
  case passOn =>
    intro r p s h
    cases r
    case clipOpen => exact opened _ _ _ s h
    case clipData => exact stored _ _ _ _ _ s h
    case clipAbort => exact aborted _ _ s h
    case clipDelete => exact deleted _ s h
    case settingSet => exact next s _ (.of_moves (handleSettingSet_moves _ _ s)) (by simp [passOn, replied]) h
    case announce => exact next s _ (handleAnnounce_next _ _ _ _ _ _ _ s) (by simp [passOn, replied]) h
    case annEnd => exact next s _ (.of_lineup (handleAnnEnd_lineup _ s)) (by simp [passOn, replied]) h
    case annWithdraw => exact next s _ (.of_moves (handleAnnWithdraw_moves _ s)) (by simp [passOn, replied]) h
    all_goals exact next s _ (.of_voice (by simp [passOn, replied])) (by simp [passOn, replied]) h
  case frame =>
    intro line strobe s h
    refine next s _ ?_ (by simp) h
    have voice : (frameWork line strobe s).voice = (voiceFrame (beforeVoice line strobe s).emergency.latch
        (beforeVoice line strobe s).test.frameSet (beforeVoice line strobe s)).voice := by
      simp [frameWork_eq, beforeMixer]
    have before : (beforeVoice line strobe s).voice = s.voice := by simp [beforeVoice]
    have moved := voiceFrame_moves (beforeVoice line strobe s).emergency.latch
      (beforeVoice line strobe s).test.frameSet (beforeVoice line strobe s)
    rw [before, ← voice] at moved
    exact .of_moves moved
  case powerOn => exact fun _ _ => fresh _ rfl
  case restart => exact fun _ _ => fresh _ rfl
  case mic =>
    intro m x s h
    refine next s _ (.of_lineup ?_) (by simp) h
    unfold micArrives
    split
    · cases m <;> simp only [setVoice_voice, Voice.collect] <;> split <;> rfl
    · rfl
  case repeatEnd => exact fun s h => next s _ (.of_moves (repeatEndEvent_moves s)) (by simp) h
  case gapEnd => exact fun s h => next s _ (.of_moves (gapEndEvent_moves s)) (by simp) h
  case liveTimeout => exact fun s h => next s _ (.of_moves (liveTimeoutEvent_moves s)) (by simp) h
  case slot => exact fun b slot s h => next s _ (slotArrives_next b slot s) (by simp) h
  case present =>
    intro b s h
    refine next s _ ?_ (by simp) h
    unfold berthPresentEvent
    split
    · exact (makePresent_next b _).after rfl rfl
    · exact .of_voice rfl
  case field =>
    intro b f s h
    refine next s _ ?_ (by simp) h
    unfold fieldAcceptedEvent
    dsimp only
    split
    · exact (afterAccept_next b _ _ _).after rfl rfl
    · exact .of_voice rfl
  all_goals
    intros
    rename_i h
    exact next _ _ (.of_voice (by simp)) (by simp) h

/-! ## The invariants -/

/-- A line-up in order, with no id twice. -/
def Lineup.Sound (l : Lineup) : Prop := l.Stacked ∧ l.Settled ∧ (l.all.map Tag.id).Nodup

theorem voiceSound_iff (v : Voice) : v.Ordered ∧ v.IdsUnique ↔ v.lineup.Sound := by
  rw [ordered_iff, idsUnique_iff, and_assoc]
  rfl

theorem ids_nodup_of_subperm {l m : List Tag} (h : l.Subperm m) (nodup : (m.map Tag.id).Nodup) :
    (l.map Tag.id).Nodup := by
  obtain ⟨k, perm, sub⟩ := h
  exact (perm.map Tag.id).nodup_iff.mp (nodup.sublist (sub.map Tag.id))

theorem VoiceNext.sound {s t : State} (h : VoiceNext s t) (sound : s.voice.lineup.Sound) : t.voice.lineup.Sound := by
  obtain ⟨stacked, settled, ids⟩ := sound
  obtain ⟨stacked', settled'⟩ := h.stacked stacked settled
  refine ⟨stacked', settled', ?_⟩
  rcases h.tags with tags | ⟨x, ⟨free, _⟩, tags⟩
  · exact ids_nodup_of_subperm tags ids
  · refine ids_nodup_of_subperm tags ?_
    rw [List.map_cons, List.nodup_cons]
    refine ⟨fun held => ?_, ids⟩
    obtain ⟨y, hy, same⟩ := List.mem_map.mp held
    exact free y hy same

theorem lineupSound_fresh : (({} : Voice).lineup).Sound :=
  ⟨⟨by simp [Voice.lineup], .nil, by simp [Voice.lineup], by simp [Voice.lineup], .nil⟩, fun _ => rfl, .nil⟩

theorem keeps_voiceSound : Keeps fun s => s.voice.lineup.Sound := by
  refine keeps_of_voice (fun s t h _ sound => h.sound sound) ?_ ?_ ?_ ?_ ?_
  case refine_5 => intro s fresh; simpa only [fresh] using lineupSound_fresh
  all_goals simp

/-- Settles O52: placement, reselection and the preemption check move records by class, and a record joins with a free
id alone. -/
theorem voiceChannelStaysOrdered : Obligations.VoiceChannelStaysOrdered := by
  intro s t ordered unique e
  rw [voiceSound_iff]
  exact keeps_voiceSound.step (fun _ _ h => h) ((voiceSound_iff _).mp ⟨ordered, unique⟩) e

theorem heldClipsReady_iff (s : State) : HeldClipsReady s ↔
    ∀ t ∈ s.voice.lineup.all, ∀ c, t.origin = .clip c → (s.clips.variant c 0).state = .ready := by
  rw [← records_tags]
  simp [HeldClipsReady, Announcement.tag]

theorem VoiceNext.heldClipsReady {s t : State} (h : VoiceNext s t) (clips : t.clips = s.clips)
    (ready : HeldClipsReady s) : HeldClipsReady t := by
  rw [heldClipsReady_iff] at ready ⊢
  rw [clips]
  intro x hx
  rcases h.tags with tags | ⟨y, ⟨_, joined⟩, tags⟩
  · exact ready x (tags.subset hx)
  · rcases List.mem_cons.mp (tags.subset hx) with rfl | old
    · exact joined
    · exact ready x old

/-- Clips that stay READY, held by the same records. -/
theorem HeldClipsReady.clips {s t : State} (h : HeldClipsReady s) (voice : t.voice = s.voice)
    (stay : ∀ c, clipHeld s.voice c = true → (s.clips.variant c 0).state = .ready → (t.clips.variant c 0).state = .ready) :
    HeldClipsReady t := by
  intro r hr c isClip
  rw [voice] at hr
  refine stay c ?_ (h r hr c isClip)
  exact List.any_eq_true.mpr ⟨r, hr, by simp [isClip]⟩

theorem keeps_heldClipsReady : Keeps HeldClipsReady := by
  refine keeps_of_voice (fun s t h clips ready => h.heldClipsReady clips ready) ?opened ?stored ?aborted ?deleted ?fresh
  case opened =>
    intro clip variant count s h
    refine h.clips (by simp) fun c _ ready => ?_
    rcases handleClipOpen_clips clip variant count s with same | ⟨k, v, n, _, _, empty, _, e⟩
    · rwa [same]
    · rw [e]
      refine (congrArg Variant.state (setVariant_variant s.clips k v _ c 0)).trans ?_
      split
      · rename_i here
        obtain ⟨rfl, rfl⟩ := here
        simp [empty] at ready
      · exact ready
  case stored =>
    intro clip variant offset count samples s h
    refine h.clips (by simp) fun c _ ready => ?_
    rcases handleClipData_clips clip variant offset count samples s with same | ⟨k, v, n, _, loading, _, e⟩
    · rwa [same]
    · rw [e]
      refine (congrArg Variant.state (setVariant_variant s.clips k v _ c 0)).trans ?_
      split
      · rename_i here
        obtain ⟨rfl, rfl⟩ := here
        simp [loading] at ready
      · exact ready
  case aborted =>
    intro clip variant s h
    refine h.clips (by simp) fun c _ ready => ?_
    rcases handleClipAbort_clips clip variant s with same | ⟨k, v, loading, e⟩
    · rwa [same]
    · rw [e, freeVariant_variant]
      split
      · rename_i here
        obtain ⟨rfl, rfl⟩ := here
        simp [loading] at ready
      · exact ready
  case deleted =>
    intro clip s h
    refine h.clips (by simp) fun c held ready => ?_
    rcases handleClipDelete_clips clip s with same | ⟨k, unheld, e⟩
    · rwa [same]
    · rw [e, (freeClip_spec s.clips k).1]
      split
      · rename_i here
        simp [here.1, unheld] at held
      · exact ready
  case fresh =>
    intro s fresh r hr
    simp [fresh, Voice.records] at hr

/-- Settles O53: a record joins with a READY clip alone, and only a clip that no record holds is deleted. -/
theorem heldClipsStayReady : Obligations.HeldClipsStayReady :=
  fun _ _ h e => keeps_heldClipsReady.step (fun _ _ h => h) h e

end Sys2Proof.Machine
end

section
/-! What each block queues for the link unit: notices of its own kinds and nothing else (R183). -/

namespace Sys2Proof.Machine

/-! ## Queueing -/

/-- On the way from s to t notices with K have been queued, and nothing else has happened to the link unit. -/
def Queues (K : Notice → Prop) (s t : State) : Prop :=
  ∃ ns : List Notice, (∀ n ∈ ns, K n) ∧ t.link = ns.foldl Link.queue s.link

section
variable {K K' : Notice → Prop} {s t u : State}

theorem Queues.of_link (h : t.link = s.link) : Queues K s t := ⟨[], by simp, h⟩

theorem Queues.refl (s : State) : Queues K s s := .of_link rfl

theorem Queues.trans (h : Queues K s t) (k : Queues K t u) : Queues K s u := by
  obtain ⟨ns, hns, e⟩ := h
  obtain ⟨ms, hms, e'⟩ := k
  refine ⟨ns ++ ms, fun n hn => ?_, by rw [e', e, List.foldl_append]⟩
  exact (List.mem_append.mp hn).elim (hns n) (hms n)

theorem Queues.mono (h : Queues K s t) (le : ∀ n, K n → K' n) : Queues K' s t := by
  obtain ⟨ns, hns, e⟩ := h
  exact ⟨ns, fun n hn => le n (hns n hn), e⟩

/-- What comes before and leaves the link unit alone makes no difference. -/
theorem Queues.after (h : Queues K u t) (e : u.link = s.link) : Queues K s t := (Queues.of_link e).trans h

/-- What comes after and leaves the link unit alone makes no difference. -/
theorem Queues.then_ (h : Queues K s t) (e : u.link = t.link) : Queues K s u := h.trans (.of_link e)

theorem Queues.notice {n : Notice} (h : K n) : Queues K s (queueNotice n s) := ⟨[n], by simpa using h, rfl⟩

theorem Queues.notices {ns : List Notice} (h : ∀ n ∈ ns, K n) : Queues K s (queueNotices ns s) :=
  ⟨ns, h, by rw [queueNotices_eq]⟩

theorem Queues.foldl {α : Type} {f : State → α → State} (h : ∀ s x, Queues K s (f s x)) (l : List α) (s : State) :
    Queues K s (l.foldl f s) := by
  induction l generalizing s with
  | nil => exact .refl s
  | cons x l ih => exact (h s x).trans (ih (f s x))

/-! ## What queueing leaves alone -/

theorem foldl_queue_buffer (ns : List Notice) (l : Link) : (ns.foldl Link.queue l).buffer = l.buffer := by
  induction ns generalizing l with
  | nil => rfl
  | cons n ns ih => exact (ih (l.queue n)).trans (Link.queue_buffer l n)

theorem foldl_queue_sending (ns : List Notice) (l : Link) : (ns.foldl Link.queue l).sending = l.sending := by
  induction ns generalizing l with
  | nil => rfl
  | cons n ns ih => exact (ih (l.queue n)).trans (Link.queue_sending l n)

theorem foldl_queue_held (ns : List Notice) (l : Link) : (ns.foldl Link.queue l).held = l.held := by
  induction ns generalizing l with
  | nil => rfl
  | cons n ns ih => exact (ih (l.queue n)).trans (Link.queue_held l n)

theorem foldl_queue_notices (ns : List Notice) (l : Link) (h : l.notices.length ≤ 32) :
    (ns.foldl Link.queue l).notices.length ≤ 32 := by
  induction ns generalizing l with
  | nil => exact h
  | cons n ns ih => exact ih (l.queue n) (Link.queue_length l n h)

theorem Queues.buffer (h : Queues K s t) : t.link.buffer = s.link.buffer := by
  obtain ⟨ns, -, e⟩ := h
  rw [e, foldl_queue_buffer]

theorem Queues.sending (h : Queues K s t) : t.link.sending = s.link.sending := by
  obtain ⟨ns, -, e⟩ := h
  rw [e, foldl_queue_sending]

theorem Queues.held (h : Queues K s t) : t.link.held = s.link.held := by
  obtain ⟨ns, -, e⟩ := h
  rw [e, foldl_queue_held]

/-! ## Counting notices -/

theorem queue_count_of_ne {l : Link} {n m : Notice} (h : n ≠ m) : (l.queue n).notices.count m = l.notices.count m := by
  rw [Link.queue_eq]
  dsimp only
  split <;> simp [h]

theorem queue_count_le (l : Link) (n m : Notice) : l.notices.count m ≤ (l.queue n).notices.count m := by
  rw [Link.queue_eq]
  dsimp only
  split <;> simp

/-- Of a notice that is none of those queued, the queue holds as many as before. -/
theorem Queues.keepsCount (h : Queues K s t) {n : Notice} (other : ¬ K n) : KeepsCount s t n := by
  obtain ⟨ns, hns, e⟩ := h
  unfold KeepsCount
  rw [e]
  clear e
  generalize s.link = l
  induction ns generalizing l with
  | nil => rfl
  | cons m ns ih =>
    have ne : m ≠ n := fun same => other (same ▸ hns m (List.mem_cons_self ..))
    exact (ih (fun k hk => hns k (List.mem_cons_of_mem m hk)) (l.queue m)).trans (queue_count_of_ne ne)

theorem KeepsCount.trans {n : Notice} (h : KeepsCount s t n) (k : KeepsCount t u n) : KeepsCount s u n :=
  Eq.trans k h

theorem Queues.count_le (h : Queues K s t) (n : Notice) : s.link.notices.count n ≤ t.link.notices.count n := by
  obtain ⟨ns, -, e⟩ := h
  rw [e]
  clear e
  generalize s.link = l
  induction ns generalizing l with
  | nil => exact Nat.le_refl _
  | cons m ns ih => exact (queue_count_le l m n).trans (ih (l.queue m))

/-- A full queue stays full, and the notices-dropped flag stays set. -/
theorem Queues.full (h : Queues K s t) (full : 32 ≤ s.link.notices.length ∧ s.link.dropped = true) :
    32 ≤ t.link.notices.length ∧ t.link.dropped = true := by
  obtain ⟨ns, -, e⟩ := h
  rw [e]
  clear e
  revert full
  generalize s.link = l
  intro full
  induction ns generalizing l with
  | nil => exact full
  | cons m ns ih =>
    refine ih (l.queue m) ?_
    rw [Link.queue_eq]
    simp [Nat.not_lt.mpr full.1, full.1]

/-- A notice that has been queued is reported. -/
theorem reports_queueNotice (n : Notice) (s : State) : Reports s (queueNotice n s) n := by
  unfold Reports
  rw [queueNotice_link, Link.queue_eq]
  dsimp only
  split
  · simp
  · rename_i full
    exact .inr ⟨Nat.not_lt.mp full, rfl⟩

theorem Reports.then_ {n : Notice} (h : Reports s t n) (k : Queues K t u) : Reports s u n := by
  rcases h with more | full
  · exact .inl (Nat.lt_of_lt_of_le more (k.count_le n))
  · exact .inr (k.full full)

theorem Queues.reports {n : Notice} (h : Queues K s t) (k : Reports t u n) : Reports s u n := by
  rcases k with more | full
  · exact .inl (Nat.lt_of_le_of_lt (h.count_le n) more)
  · exact .inr full

/-- Every notice of a list that has been queued is reported. -/
theorem reports_queueNotices {ns : List Notice} {n : Notice} (h : n ∈ ns) (s : State) :
    Reports s (queueNotices ns s) n := by
  obtain ⟨front, back, rfl⟩ := List.append_of_mem h
  have split : queueNotices (front ++ n :: back) s =
      queueNotices back (queueNotice n (queueNotices front s)) := by
    simp [queueNotices, List.foldl_append]
  rw [split]
  exact (Queues.notices (K := fun _ => True) (by simp)).reports
    ((reports_queueNotice n _).then_ (Queues.notices (K := fun _ => True) (by simp)))

theorem Reports.of_link {t' : State} {n : Notice} (h : Reports s t n) (e : t'.link = t.link) : Reports s t' n :=
  h.then_ (Queues.of_link (K := fun _ => True) e)

end

/-! ## Kinds of notices -/

/-- A notice of the frame timer. -/
def Notice.OfTimer : Notice → Prop
  | .referenceLost => True
  | _ => False

/-- A notice of a programme. -/
def Notice.OfProgramme (p : ProgrammeNo) : Notice → Prop
  | .programmeState q _ _ => q = p
  | _ => False

/-- A notice of the programme input unit. -/
def Notice.OfProgrammes (n : Notice) : Prop := ∃ p, n.OfProgramme p

/-- A notice of the emergency line unit. -/
def Notice.OfEmergency : Notice → Prop
  | .emergency _ _ => True
  | _ => False

/-- A notice of the clock or of the wake scheduler. -/
def Notice.OfClock : Notice → Prop
  | .clockLimit _ _ _ _ _ => True
  | .wakeState _ _ _ _ _ => True
  | _ => False

/-- A notice of the voice channel. -/
def Notice.OfVoice : Notice → Prop
  | .annStarted _ _ => True
  | .annEnded _ _ => True
  | .stackLimit _ _ _ _ => True
  | _ => False

/-- The BERTH_CHANGE notice of a berth. -/
def Notice.OfBerth (b : Berth) : Notice → Prop
  | .berthChange c _ _ _ => c = b
  | _ => False

/-- The LANE_STATE notice of a lane. -/
def Notice.OfLane (l : LaneNo) : Notice → Prop
  | .laneState k _ _ _ => k = l
  | _ => False

/-- A notice of the lanes and their berths. -/
def Notice.OfLanes (n : Notice) : Prop := (∃ b, n.OfBerth b) ∨ ∃ l, n.OfLane l

/-- A notice of a call press: CALL, or those of the wake scheduler and the voice channel. -/
def Notice.OfPress (n : Notice) : Prop := (∃ b, n = .call b) ∨ n.OfClock ∨ n.OfVoice

/-! ## The blocks' work at a lane frame start -/

theorem timerFrame_queues (strobe : Bool) (s : State) : Queues Notice.OfTimer s (timerFrame strobe s) := by
  unfold timerFrame
  dsimp only
  split
  · exact Queues.after (.notice trivial) rfl
  · exact .of_link rfl

theorem stall_queues (p : ProgrammeNo) (s : State) :
    Queues (fun n => n = .programmeState p .running .stalled) s (stall p s) :=
  Queues.after (.notice rfl) rfl

theorem countInterval_queues (p : ProgrammeNo) (s : State) :
    Queues (fun n => n = .programmeState p .running .stalled) s (countInterval p s) := by
  unfold countInterval
  dsimp only
  split
  · split
    · exact stall_queues p s
    · exact .of_link rfl
  · exact .refl s

theorem programmeFrameOf_queues (p : ProgrammeNo) (s : State) :
    Queues (fun n => n = .programmeState p .running .stalled) s (programmeFrameOf p s) := by
  have counted := (countInterval_queues p (setProgramme p Programme.advance s)).after (s := s) rfl
  exact counted.then_ (by simp [programmeFrameOf])

theorem programmeFrame_queues (s : State) : Queues Notice.OfProgrammes s (programmeFrame s) :=
  Queues.foldl (fun s p => (programmeFrameOf_queues p s).mono fun _ h => by rw [h]; exact ⟨p, rfl⟩) _ s

theorem acceptLine_queues (s : State) : Queues Notice.OfEmergency s (acceptLine s) := by
  unfold acceptLine
  dsimp only
  split
  · exact .of_link rfl
  · split
    · exact Queues.after (.notice trivial) rfl
    · exact .of_link rfl

theorem carryOutClear_queues (s : State) : Queues Notice.OfEmergency s (carryOutClear s) := by
  unfold carryOutClear
  split
  · exact Queues.after (.notice trivial) rfl
  · exact .refl s

theorem emergencyFrame_queues (line : Line) (s : State) : Queues Notice.OfEmergency s (emergencyFrame line s) := by
  unfold emergencyFrame
  dsimp only
  split
  · exact ((acceptLine_queues _).after (by rfl)).trans (carryOutClear_queues _)
  · exact (carryOutClear_queues _).after (by rfl)

theorem reportChange_queues (b : Berth) (s : State) : Queues (Notice.OfBerth b) s (reportChange b s) := by
  unfold reportChange
  dsimp only
  split
  · exact .refl s
  · exact Queues.after (.notice rfl) rfl

theorem makeAbsent_queues (b : Berth) (s : State) : Queues (Notice.OfBerth b) s (makeAbsent b s) := by
  unfold makeAbsent
  dsimp only
  split
  · exact (reportChange_queues b _).after rfl
  · exact .of_link rfl

theorem laneAbsent_queues (l : LaneNo) (s : State) : Queues (fun n => ∃ b, n.OfBerth b) s (laneAbsent l s) :=
  Queues.foldl (fun s b => (makeAbsent_queues b s).mono fun _ h => ⟨b, h⟩) _ s

theorem invalidSlot_queues (b : Berth) (s : State) : Queues (Notice.OfBerth b) s (invalidSlot b s) := by
  unfold invalidSlot
  dsimp only
  split
  · exact (makeAbsent_queues b _).after rfl
  · exact .of_link rfl

theorem laneNotice_queues (l : LaneNo) (x y : LaneState) (c : LaneCause) (s : State) :
    Queues (Notice.OfLane l) s (laneNotice l x y c s) :=
  .notice rfl

theorem laneTrains_queues (l : LaneNo) (s : State) : Queues Notice.OfLanes s (laneTrains l s) :=
  ((laneNotice_queues l _ _ _ _).after rfl).mono fun _ h => .inr ⟨l, h⟩

theorem laneLoses_queues (l : LaneNo) (s : State) : Queues Notice.OfLanes s (laneLoses l s) := by
  refine Queues.trans (t := laneNotice l .up .down .lost (raise (.syncLoss l) 1 (setLane l (fun x => x.enter .down) s)))
    (((laneNotice_queues l _ _ _ _).after rfl).mono fun _ h => .inr ⟨l, h⟩) ?_
  exact (laneAbsent_queues l _).mono fun _ h => .inl h

theorem judgeLane_queues (l : LaneNo) (s : State) : Queues Notice.OfLanes s (judgeLane l s) := by
  unfold judgeLane
  dsimp only
  split
  · exact .refl s
  · split
    · split
      · exact laneTrains_queues l s
      · exact .of_link rfl
    · exact .of_link rfl
  · split
    · exact .of_link rfl
    · split
      · exact laneLoses_queues l s
      · exact .of_link rfl

theorem closeSlots_queues (s : State) : Queues (fun n => ∃ b, n.OfBerth b) s (closeSlots s) := by
  refine Queues.foldl (fun s b => ?_) _ s
  split
  · exact (invalidSlot_queues b s).mono fun _ h => ⟨b, h⟩
  · exact .refl s

theorem testErrors_link (b : Berth) (n : Nat) (s : State) : (testErrors b n s).link = s.link := by
  unfold testErrors
  split <;> rfl

theorem closeChecker_link (s : State) : (closeChecker s).link = s.link :=
  foldl_keeps State.link (fun s b => by
    split
    · rfl
    · exact testErrors_link b 48 s) _ s

theorem closeFrame_queues (s : State) : Queues Notice.OfLanes s (closeFrame s) := by
  refine Queues.then_ (t := closeLanes (closeChecker (closeSlots s))) ?_ (by rw [closeFrame, openSlots])
  refine ((closeSlots_queues s).mono fun _ h => .inl h).trans ?_
  exact (Queues.foldl (fun s l => judgeLane_queues l s) _ _).after (closeChecker_link _)

theorem evaluateWake_queues (s : State) : Queues Notice.OfClock s (evaluateWake s) := by
  unfold evaluateWake
  split
  · refine Queues.after (Queues.notices fun n hn => ?_) rfl
    obtain ⟨e, _, rfl⟩ := List.mem_map.mp hn
    trivial
  · exact .refl s

theorem wakeSecond_queues (s : State) : Queues Notice.OfClock s (wakeSecond s) := by
  unfold wakeSecond
  refine Queues.after (Queues.notices fun n hn => ?_) rfl
  obtain ⟨e, _, rfl⟩ := List.mem_map.mp hn
  trivial

theorem clockSecond_queues (s : State) : Queues Notice.OfClock s (clockSecond s) := by
  unfold clockSecond
  split
  · exact .refl s
  · split
    · exact Queues.after (.notice trivial) rfl
    · exact .of_link rfl

theorem minuteTick_queues (s : State) : Queues Notice.OfClock s (minuteTick s) := (evaluateWake_queues _).after rfl

theorem secondTick_queues (s : State) : Queues Notice.OfClock s (secondTick s) := by
  have ticked : Queues Notice.OfClock s
      (wakeSecond (clockSecond (setClock (fun c => { c with frameCount := 0 }) s))) :=
    ((clockSecond_queues _).after (by rfl)).trans (wakeSecond_queues _)
  unfold secondTick
  dsimp only
  split
  · exact ticked.trans (minuteTick_queues _)
  · exact ticked

theorem clockFrame_queues (s : State) : Queues Notice.OfClock s (clockFrame s) := by
  unfold clockFrame
  split
  · split
    · exact secondTick_queues s
    · exact .of_link rfl
  · exact .refl s

/-! ## The voice channel -/

theorem startRepeat_link (r : Announcement) (s : State) : (startRepeat r s).link = s.link := by
  unfold startRepeat
  split <;> rfl

theorem rearm_link (s : State) : (rearm s).link = s.link := by
  unfold rearm
  split <;> rfl

theorem endActive_queues (e : EndReason) (r : Announcement) (s : State) :
    Queues Notice.OfVoice s (endActive e r s) :=
  Queues.after (.notice trivial) rfl

theorem dueEnds_queues (s : State) : Queues Notice.OfVoice s (dueEnds s) := by
  unfold dueEnds
  split
  · exact .refl s
  · split
    · exact endActive_queues _ _ s
    · split
      · exact endActive_queues _ _ s
      · exact .refl s

theorem repeatOver_queues (r : Announcement) (s : State) : Queues Notice.OfVoice s (repeatOver r s) := by
  unfold repeatOver
  split
  · exact endActive_queues _ _ s
  · split
    · exact .of_link rfl
    · exact .of_link (startRepeat_link _ s)

theorem playedLive_queues (r : Announcement) (s : State) : Queues Notice.OfVoice s (playedLive r s) := by
  unfold playedLive
  split
  · dsimp only
    split
    · exact endActive_queues _ _ s
    · exact .of_link rfl
  · exact .of_link rfl

theorem accountFrame_queues (s : State) : Queues Notice.OfVoice s (accountFrame s) := by
  unfold accountFrame
  split
  · exact .refl s
  · split
    · unfold playedClip
      dsimp only
      split
      · exact repeatOver_queues _ s
      · exact .of_link rfl
    · unfold playedGap
      dsimp only
      split
      · exact .of_link (startRepeat_link _ s)
      · exact .of_link rfl
    · exact playedLive_queues _ s

theorem reselectFor_queues (n : Nat) (s : State) : Queues Notice.OfVoice s (reselectFor n s) := by
  induction n generalizing s with
  | zero => exact .refl s
  | succ n ih =>
    unfold reselectFor
    split
    · exact .refl s
    · exact .of_link rfl
    · rename_i t below _
      have popped_link : (popped below s).link = s.link := rearm_link _
      split
      · exact (Queues.after (.notice trivial) popped_link).trans (ih _)
      · exact .of_link popped_link

theorem reselectIfFreed_queues (had : Bool) (s : State) : Queues Notice.OfVoice s (reselectIfFreed had s) := by
  unfold reselectIfFreed
  split
  · exact reselectFor_queues _ s
  · exact .refl s

theorem preemptionCheck_link (s : State) : (preemptionCheck s).link = s.link := by
  unfold preemptionCheck
  split
  · rfl
  · dsimp only
    split
    · rfl
    · split <;> rfl

theorem startActive_queues (s : State) : Queues Notice.OfVoice s (startActive s) := by
  unfold startActive
  split
  · exact .refl s
  · split
    · refine Queues.after (.notice trivial) ?_
      split
      · exact startRepeat_link _ s
      · rfl
    · exact .refl s

theorem voiceFrame_queues (latch : Bool) (set : BerthSet) (s : State) :
    Queues Notice.OfVoice s (voiceFrame latch set s) := by
  have latched (u : State) : Queues Notice.OfVoice u (latchStep latch u) := by
    unfold latchStep
    split
    · exact .refl u
    · split
      · exact (startActive_queues _).after ((preemptionCheck_link _).trans (by simp))
      · exact startActive_queues u
  have turned := (dueEnds_queues (setVoice Voice.turnMics s)).after (s := s) rfl
  exact (((turned.trans (accountFrame_queues _)).trans (reselectIfFreed_queues _ _)).trans (latched _)).then_ rfl

/-! ## The lane frame start as a whole -/

section
variable (line : Line) (strobe : Bool) (s : State)

/-- Up to the clock every block but the clock and the voice channel may queue notices. -/
theorem beforeClock_queues :
    Queues (fun n => n.OfTimer ∨ n.OfProgrammes ∨ n.OfEmergency ∨ n.OfLanes) s (beforeClock line strobe s) := by
  have timer := (timerFrame_queues strobe s).mono (K' := fun n => n.OfTimer ∨ n.OfProgrammes ∨ n.OfEmergency ∨ n.OfLanes)
    fun _ h => .inl h
  have programmes := (programmeFrame_queues (snapshotAt (snapshotDue s) 0 (timerFrame strobe s))).mono
    (K' := fun n => n.OfTimer ∨ n.OfProgrammes ∨ n.OfEmergency ∨ n.OfLanes) fun _ h => .inr (.inl h)
  have emergency := (emergencyFrame_queues line (snapshotAt (snapshotDue s) 1
    (programmeFrame (snapshotAt (snapshotDue s) 0 (timerFrame strobe s))))).mono
    (K' := fun n => n.OfTimer ∨ n.OfProgrammes ∨ n.OfEmergency ∨ n.OfLanes) fun _ h => .inr (.inr (.inl h))
  have lanes := (closeFrame_queues (emergencyFrame line (snapshotAt (snapshotDue s) 1
    (programmeFrame (snapshotAt (snapshotDue s) 0 (timerFrame strobe s)))))).mono
    (K' := fun n => n.OfTimer ∨ n.OfProgrammes ∨ n.OfEmergency ∨ n.OfLanes) fun _ h => .inr (.inr (.inr h))
  exact (((timer.trans (programmes.after (by simp))).trans (emergency.after (by simp))).trans lanes).then_ (by
    simp [beforeClock, testFrame])

theorem beforeMixer_queues :
    Queues Notice.OfVoice (beforeVoice line strobe s) (beforeMixer line strobe s) :=
  (voiceFrame_queues (beforeVoice line strobe s).emergency.latch (beforeVoice line strobe s).test.frameSet _).then_
    (by simp [beforeMixer, chimeFrame])

theorem frameWork_link : (frameWork line strobe s).link = (beforeMixer line strobe s).link := by
  rw [frameWork_eq]
  simp [sendFrames]

/-- The blocks' work at a lane frame start does nothing to the link unit but queue notices. -/
theorem frameWork_queues : Queues (fun _ => True) s (frameWork line strobe s) :=
  ((((beforeClock_queues line strobe s).mono fun _ _ => trivial).trans
    ((clockFrame_queues _).mono fun _ _ => trivial)).trans
    ((beforeMixer_queues line strobe s).mono fun _ _ => trivial)).then_ (frameWork_link line strobe s)

end

end Sys2Proof.Machine
end

section
/-! The link unit between two commands (R178 to R183): what the events and the requests queue, and that settling leaves
nothing undone. -/

namespace Sys2Proof.Machine

/-! ## What the events queue -/

theorem entryPoint_queues (p : ProgrammeNo) (s : State) : Queues (Notice.OfProgramme p) s (entryPoint p s) := by
  unfold entryPoint
  dsimp only
  split
  · exact .of_link rfl
  · exact Queues.after (.notice rfl) rfl

theorem takeCell_link (p : ProgrammeNo) (c : VideoCell) (s : State) : (takeCell p c s).link = s.link := by
  unfold takeCell
  split <;> rfl

theorem cellArrives_queues (p : Byte) (entry : Bool) (video : List Byte) (s : State) :
    Queues Notice.OfProgrammes s (cellArrives p entry video s) := by
  unfold cellArrives
  split
  · exact .refl s
  · rename_i q _
    split
    · dsimp only
      split
      · exact ((entryPoint_queues q _).after (takeCell_link _ _ _)).mono fun _ h => ⟨q, h⟩
      · exact .of_link (takeCell_link _ _ _)
    · exact .refl s

theorem audioArrives_link (p n : Byte) (x : List (List (Sample × Sample))) (c : Bool) (s : State) :
    (audioArrives p n x c s).link = s.link := by
  unfold audioArrives
  split
  · rfl
  · split <;> rfl

theorem progress_queues {act : State → State} {s : State} (h : Queues Notice.OfVoice s (act s)) (r : Announcement) :
    Queues Notice.OfVoice s (progress r act s) := by
  unfold progress
  refine Queues.trans ?_ (reselectIfFreed_queues _ _)
  split
  · exact dueEnds_queues s
  · exact h

theorem repeatEndEvent_queues (s : State) : Queues Notice.OfVoice s (repeatEndEvent s) := by
  unfold repeatEndEvent
  split
  · exact .refl s
  · split
    · exact progress_queues (repeatOver_queues _ s) _
    · exact .refl s

theorem gapEndEvent_queues (s : State) : Queues Notice.OfVoice s (gapEndEvent s) := by
  unfold gapEndEvent
  split
  · exact .refl s
  · split
    · exact progress_queues (.of_link (startRepeat_link _ s)) _
    · exact .refl s

theorem liveTimeoutEvent_queues (s : State) : Queues Notice.OfVoice s (liveTimeoutEvent s) := by
  unfold liveTimeoutEvent
  split
  · exact .refl s
  · split
    · exact progress_queues (endActive_queues _ _ s) _
    · exact .refl s

theorem alarmAcceptedEvent_queues (s : State) : Queues Notice.OfEmergency s (alarmAcceptedEvent s) := by
  unfold alarmAcceptedEvent
  dsimp only
  split
  · exact emergencyFrame_queues _ s
  · exact .refl s

theorem secondTickEvent_queues (s : State) : Queues Notice.OfClock s (secondTickEvent s) := by
  unfold secondTickEvent
  split
  · exact secondTick_queues s
  · exact .refl s

theorem minuteTickEvent_queues (s : State) : Queues Notice.OfClock s (minuteTickEvent s) := by
  unfold minuteTickEvent
  split
  · exact minuteTick_queues s
  · exact .refl s

theorem ringLimitEvent_queues (b : Berth) (s : State) : Queues Notice.OfClock s (ringLimitEvent b s) := by
  unfold ringLimitEvent
  split
  · exact .refl s
  · split
    · exact Queues.after (.notice trivial) rfl
    · exact .refl s

theorem stackLimitMet_queues (r : Announcement) (s : State) : Queues Notice.OfVoice s (stackLimitMet r s) := by
  unfold stackLimitMet
  split
  · exact Queues.after (.notice trivial) rfl
  · exact .refl s

theorem place_queues (r : Announcement) (s : State) : Queues Notice.OfVoice s (place r s).1 := by
  unfold place
  split
  · exact .of_link rfl
  · split
    · exact .of_link rfl
    · split
      · split
        · exact .of_link rfl
        · exact (stackLimitMet_queues r _).after rfl
      · exact .of_link rfl

theorem autoAnnounce_queues (b : Berth) (name : Option ClipNo) (s : State) :
    Queues Notice.OfVoice s (autoAnnounce b name s).1 := by
  unfold autoAnnounce
  split
  · exact .refl s
  · split
    · exact .refl s
    · dsimp only
      split
      · exact .refl s
      · exact place_queues _ s

theorem callPress_queues (b : Berth) (s : State) : Queues Notice.OfPress s (callPress b s) := by
  unfold callPress
  split
  · exact .notice (.inl ⟨b, rfl⟩)
  · rename_i e _
    split
    · have asked := (autoAnnounce_queues b s.wake.stops[e.stop].nameClip
        (setEntries (fun es => es.map fun x => if x.berth = b then x.acknowledge else x) s)).after (s := s) rfl
      exact (asked.mono fun _ h => .inr (.inr h)).trans (.notice (.inr (.inl trivial)))
    · exact .notice (.inl ⟨b, rfl⟩)

theorem afterAccept_queues (b : Berth) (report press : Bool) (s : State) :
    Queues (fun n => n.OfBerth b ∨ n.OfPress) s (afterAccept b report press s) := by
  have reported : Queues (fun n => n.OfBerth b ∨ n.OfPress) s (if report then reportChange b s else s) := by
    split
    · exact (reportChange_queues b s).mono fun _ h => .inl h
    · exact .refl s
  unfold afterAccept
  dsimp only
  split
  · exact reported.trans ((callPress_queues b _).mono fun _ h => .inr h)
  · exact reported

theorem makePresent_queues (b : Berth) (s : State) :
    Queues (fun n => n.OfBerth b ∨ n.OfPress) s (makePresent b s) :=
  (afterAccept_queues b _ _ _).after rfl

theorem validSlot_queues (b : Berth) (status : Byte) (s : State) :
    Queues (fun n => n.OfBerth b ∨ n.OfPress) s (validSlot b status s) := by
  unfold validSlot
  dsimp only
  split
  · exact (afterAccept_queues b _ _ _).after rfl
  · split
    · exact (makePresent_queues b _).after rfl
    · exact .of_link rfl

theorem slotArrives_queues (b : Berth) (slot : UpSlot) (s : State) :
    Queues (fun n => n.OfBerth b ∨ n.OfPress) s (slotArrives b slot s) := by
  unfold slotArrives
  split
  · exact .refl s
  · dsimp only
    split
    · split
      · exact (validSlot_queues b _ _).after (testErrors_link _ _ _)
      · exact ((invalidSlot_queues b _).mono fun _ h => .inl h).after (testErrors_link _ _ _)
    · exact ((invalidSlot_queues b _).mono fun _ h => .inl h).after (testErrors_link _ _ _)

theorem berthPresentEvent_queues (b : Berth) (s : State) :
    Queues (fun n => n.OfBerth b ∨ n.OfPress) s (berthPresentEvent b s) := by
  unfold berthPresentEvent
  split
  · exact (makePresent_queues b _).after rfl
  · exact .refl s

theorem berthAbsentEvent_queues (b : Berth) (s : State) : Queues (Notice.OfBerth b) s (berthAbsentEvent b s) := by
  unfold berthAbsentEvent
  split
  · exact makeAbsent_queues b s
  · exact .refl s

theorem fieldAcceptedEvent_queues (b : Berth) (f : StatusField) (s : State) :
    Queues (fun n => n.OfBerth b ∨ n.OfPress) s (fieldAcceptedEvent b f s) := by
  unfold fieldAcceptedEvent
  dsimp only
  split
  · exact (afterAccept_queues b _ _ _).after rfl
  · exact .refl s

theorem referenceLostEvent_queues (s : State) : Queues Notice.OfTimer s (referenceLostEvent s) := by
  unfold referenceLostEvent
  split
  · exact Queues.after (.notice trivial) rfl
  · exact .refl s

theorem trailerArrives_link (l : LaneNo) (e c : BitVec 16) (s : State) : (trailerArrives l e c s).link = s.link := by
  unfold trailerArrives
  dsimp only
  split <;> rfl

/-! ## What the requests queue -/

theorem settingEffects_link (i : Fin 17) (old : Settings) (s : State) : (settingEffects i old s).link = s.link := by
  unfold settingEffects
  split
  · rfl
  · rfl
  · unfold depthLimitChanged
    dsimp only
    split
    · exact (preemptionCheck_link _).trans (rearm_link s)
    · exact rearm_link s
  · unfold autoSnapshotChanged
    split <;> rfl
  · rfl

theorem handleAnnounce_queues (id cls origin clip : Byte) (set : BerthSet) (n card : Byte) (s : State) :
    Queues Notice.OfVoice s (handleAnnounce id cls origin clip set n card s).1 := by
  unfold handleAnnounce
  split
  · exact .refl s
  · split
    · split
      · exact .refl s
      · split
        · exact .refl s
        · split
          · exact .refl s
          · dsimp only
            split
            · exact .refl s
            · exact place_queues _ s
    · exact .refl s

theorem withdrawOther_queues (id : Byte) (s : State) : Queues Notice.OfVoice s (withdrawOther id s).1 := by
  unfold withdrawOther
  split
  · split
    · exact .refl s
    · exact .of_link rfl
  · split
    · exact Queues.after (.notice trivial) rfl
    · exact .refl s

theorem handleAnnWithdraw_queues (id : Byte) (s : State) : Queues Notice.OfVoice s (handleAnnWithdraw id s).1 := by
  unfold handleAnnWithdraw
  split
  · split
    · split
      · exact .refl s
      · exact .of_link rfl
    · exact withdrawOther_queues id s
  · exact withdrawOther_queues id s

theorem handleClockSet_queues (d h m sec : Byte) (s : State) :
    Queues Notice.OfClock s (handleClockSet d h m sec s).1 := by
  unfold handleClockSet
  split
  · exact .refl s
  · exact (evaluateWake_queues _).after rfl

theorem handleStopSet_queues (t : Byte) (eta : BitVec 16) (name : Byte) (s : State) :
    Queues Notice.OfClock s (handleStopSet t eta name s).1 := by
  unfold handleStopSet
  split
  · split
    · exact .refl s
    · exact (evaluateWake_queues _).after rfl
  · exact .refl s

theorem handleStopPassed_queues (t : Byte) (s : State) : Queues Notice.OfClock s (handleStopPassed t s).1 := by
  unfold handleStopPassed
  split
  · exact .refl s
  · split
    · refine Queues.after (Queues.notices fun n hn => ?_) rfl
      obtain ⟨e, _, rfl⟩ := List.mem_map.mp hn
      trivial
    · exact .refl s

theorem handleWakeSet_queues (b t lead : Byte) (s : State) : Queues Notice.OfClock s (handleWakeSet b t lead s).1 := by
  unfold handleWakeSet
  split
  · split
    · exact (evaluateWake_queues _).after rfl
    · exact .refl s
  · exact .refl s

theorem handleLaneSet_queues (l e : Byte) (s : State) : Queues Notice.OfLanes s (handleLaneSet l e s).1 := by
  have noticed (l : LaneNo) (x y : LaneState) (c : LaneCause) (f : Lane → Lane) :
      Queues Notice.OfLanes s (laneNotice l x y c (setLane l f s)) :=
    ((laneNotice_queues l x y c _).after rfl).mono fun _ h => .inr ⟨l, h⟩
  unfold handleLaneSet
  split
  · rename_i l _ _
    split
    · exact noticed l _ _ _ _
    · exact .refl s
    · exact .refl s
  · rename_i l _ _
    split
    · exact .refl s
    · exact noticed l _ _ _ _
    · exact (noticed l _ _ _ _).trans ((laneAbsent_queues l _).mono fun _ h => .inl h)
  · exact .refl s

theorem handleLaneReset_queues (l : Byte) (s : State) : Queues Notice.OfLanes s (handleLaneReset l s).1 := by
  unfold handleLaneReset
  split
  · exact .refl s
  · rename_i l _
    dsimp only
    split
    · exact .of_link rfl
    · exact ((laneNotice_queues l _ _ _ _).after rfl).mono fun _ h => .inr ⟨l, h⟩

theorem handleAnnEnd_link (id : Byte) (s : State) : (handleAnnEnd id s).1.link = s.link := by
  unfold handleAnnEnd
  split
  · split
    · split <;> rfl
    · split <;> rfl
  · split <;> rfl

/-- A request that is passed on does nothing to the link unit but queue notices. -/
theorem passOn_queues (r : Request) (p : List Byte) (s : State) : Queues (fun _ => True) s (passOn r p s).1 := by
  cases r
  case settingSet =>
    refine .of_link ?_
    simp only [passOn, replied, handleSettingSet]
    split
    · rfl
    · exact settingEffects_link _ _ _
  case announce => exact (handleAnnounce_queues _ _ _ _ _ _ _ s).mono fun _ _ => trivial
  case annEnd => exact .of_link (handleAnnEnd_link _ s)
  case annWithdraw => exact (handleAnnWithdraw_queues _ s).mono fun _ _ => trivial
  case clockSet => exact (handleClockSet_queues _ _ _ _ s).mono fun _ _ => trivial
  case stopSet => exact (handleStopSet_queues _ _ _ s).mono fun _ _ => trivial
  case stopPassed => exact (handleStopPassed_queues _ s).mono fun _ _ => trivial
  case wakeSet => exact (handleWakeSet_queues _ _ _ s).mono fun _ _ => trivial
  case laneSet => exact (handleLaneSet_queues _ _ s).mono fun _ _ => trivial
  case laneReset => exact (handleLaneReset_queues _ s).mono fun _ _ => trivial
  all_goals exact .of_link (by simp [passOn, replied])

theorem handle_queues (f : LinkFrame) (s : State) : Queues (fun _ => True) s (handle f s).1 := by
  unfold handle
  split
  · exact .refl s
  · split
    · exact passOn_queues _ _ s
    · exact .refl s

end Sys2Proof.Machine
end

section
/-! The link unit stays within its capacities and leaves nothing undone (R178 to R183). -/

namespace Sys2Proof.Machine

/-! ## While a command is carried out -/

/-- What the link unit keeps while a command is carried out: capacities, one entry in hand at most, and what the
receiver holds. -/
structure Link.Bounded (l : Link) : Prop where
  buffer   : l.buffer.length ≤ 8
  notices  : l.notices.length ≤ 32
  inHand   : (l.buffer.filter fun e => e.state == .inHand).length ≤ 1
  receiver : l.held = [] ∨ (l.held.head? = some 0xA7 ∧ l.held.length < 1007)

theorem Link.Sound.bounded {l : Link} (h : l.Sound) : l.Bounded := ⟨h.buffer, h.notices, h.inHand, h.receiver⟩

theorem Queues.bounded {K : Notice → Prop} {s t : State} (q : Queues K s t) (h : s.link.Bounded) : t.link.Bounded := by
  have buffer := q.buffer
  have held := q.held
  refine ⟨by rw [buffer]; exact h.buffer, ?_, by rw [buffer]; exact h.inHand, by rw [held]; exact h.receiver⟩
  obtain ⟨ns, -, e⟩ := q
  rw [e]
  exact foldl_queue_notices ns _ h.notices

/-- Another request buffer, within its bounds. -/
theorem Link.Bounded.withBuffer {l : Link} (h : l.Bounded) {buffer : List BufferEntry} (length : buffer.length ≤ 8)
    (inHand : (buffer.filter fun e => e.state == .inHand).length ≤ 1) : Link.Bounded { l with buffer := buffer } :=
  ⟨length, h.notices, inHand, h.receiver⟩

/-! ## The hand-over -/

theorem takeOldest_length {buffer rest : List BufferEntry} {f : LinkFrame} (h : takeOldest buffer = some (f, rest)) :
    rest.length = buffer.length := by
  induction buffer generalizing rest with
  | nil => simp [takeOldest] at h
  | cons e buffer ih =>
    unfold takeOldest at h
    split at h
    · cases h
      rfl
    · split at h
      · cases h
      · rename_i g rest' found
        cases h
        simp [ih found]

/-- Taking a request in hand makes one entry more that is in hand. -/
theorem takeOldest_inHand {buffer rest : List BufferEntry} {f : LinkFrame} (h : takeOldest buffer = some (f, rest)) :
    (rest.filter fun e => e.state == .inHand).length = (buffer.filter fun e => e.state == .inHand).length + 1 := by
  induction buffer generalizing rest with
  | nil => simp [takeOldest] at h
  | cons e buffer ih =>
    unfold takeOldest at h
    split at h
    · rename_i waiting
      cases h
      simp [waiting]
    · split at h
      · cases h
      · rename_i g rest' found
        cases h
        have shorter := ih found
        rw [List.filter_cons, List.filter_cons]
        split
        · rw [List.length_cons, List.length_cons, shorter]
        · exact shorter

theorem takeOldest_eq_none {buffer : List BufferEntry} (h : takeOldest buffer = none) :
    ∀ e ∈ buffer, e.state ≠ .waiting := by
  induction buffer with
  | nil => simp
  | cons e buffer ih =>
    unfold takeOldest at h
    split at h
    · cases h
    · rename_i notWaiting
      split at h
      · rename_i none
        exact List.forall_mem_cons.mpr ⟨notWaiting, ih none⟩
      · cases h

/-- While the hand-over is free no entry is in hand. -/
theorem inHand_of_free {buffer : List BufferEntry} (h : ¬ handOverHeld buffer = true) :
    (buffer.filter fun e => e.state == .inHand).length = 0 := by
  rw [List.length_eq_zero_iff, List.filter_eq_nil_iff]
  intro e he inHand
  exact h (List.any_eq_true.mpr ⟨e, he, by simp [inHand]⟩)

theorem taken_bounded {l : Link} {f : LinkFrame} {buffer : List BufferEntry} (h : l.Bounded)
    (free : ¬ handOverHeld l.buffer = true) (took : takeOldest l.buffer = some (f, buffer)) :
    Link.Bounded { l with buffer := buffer } :=
  h.withBuffer ((takeOldest_length took).symm ▸ h.buffer) (by rw [takeOldest_inHand took, inHand_of_free free])

theorem answered_bounded {s : State} (h : s.link.Bounded) (r : Reply) : (answerInHand r s).link.Bounded := by
  refine h.withBuffer (by simpa using h.buffer) ?_
  have none : (s.link.buffer.map fun e => if e.state = .inHand then { e with state := .answered r } else e).filter
      (fun e => e.state == .inHand) = [] := by
    rw [List.filter_eq_nil_iff]
    intro e he
    obtain ⟨x, _, rfl⟩ := List.mem_map.mp he
    split
    · simp
    · rename_i other
      simpa using other
  rw [none]
  exact Nat.zero_le _

/-- An entry in hand holds the hand-over. -/
theorem handOverHeld_of_inHand {buffer : List BufferEntry}
    (h : 1 ≤ (buffer.filter fun e => e.state == .inHand).length) : handOverHeld buffer = true := by
  obtain ⟨e, he⟩ := List.exists_mem_of_length_pos h
  obtain ⟨mem, inHand⟩ := List.mem_filter.mp he
  exact List.any_eq_true.mpr ⟨e, mem, by simp [inHand]⟩

theorem serveFor_bounded (n : Nat) (s : State) (h : s.link.Bounded) : (serveFor n s).link.Bounded := by
  induction n generalizing s with
  | zero => exact h
  | succ n ih =>
    unfold serveFor
    split
    · exact h
    · rename_i free
      split
      · exact h
      · rename_i f buffer took
        have taken : (setLink (fun l => { l with buffer := buffer }) s).link.Bounded := taken_bounded h free took
        have bounded := (handle_queues f (setLink (fun l => { l with buffer := buffer }) s)).bounded taken
        split <;> rename_i s' _ handled <;> rw [handled] at bounded
        · exact ih _ (answered_bounded bounded _)
        · exact bounded

/-- Serving hands requests over until none can be (R180). -/
theorem serveFor_served (n : Nat) (s : State) (enough : waits s.link.buffer ≤ n) : LinkQuiet (serveFor n s) := by
  induction n generalizing s with
  | zero =>
    refine .inr fun e he waiting => ?_
    have none : waits s.link.buffer = 0 := Nat.le_zero.mp enough
    exact absurd waiting (by simpa using List.countP_eq_zero.mp none e he)
  | succ n ih =>
    unfold serveFor
    split
    · rename_i held
      exact .inl held
    · split
      · rename_i none
        exact .inr (takeOldest_eq_none none)
      · rename_i f buffer took
        have same := (handle_queues f (setLink (fun l => { l with buffer := buffer }) s)).buffer
        split <;> rename_i s' _ handled <;> rw [handled] at same
        · refine ih _ ?_
          have fewer := waits_takeOldest took
          rw [waits_answerInHand, same]
          show waits buffer ≤ n
          omega
        · refine .inl (handOverHeld_of_inHand ?_)
          rw [same]
          show 1 ≤ (buffer.filter _).length
          rw [takeOldest_inHand took]
          exact Nat.le_add_left 1 _

/-! ## The transmitter -/

theorem transmit_chosen (l : Link) : l.transmit.sending = none → l.transmit.notices = [] ∧
    oldestAnswered l.transmit.buffer = none := by
  unfold Link.transmit
  split
  · rename_i busy
    simp [busy]
  · split
    · simp
    · rename_i none
      split
      · rename_i empty
        exact fun _ => ⟨empty, none⟩
      · simp

theorem transmit_notices_le (l : Link) : l.transmit.notices.length ≤ l.notices.length := by
  unfold Link.transmit
  split
  · exact Nat.le_refl _
  · split
    · exact Nat.le_refl _
    · split
      · exact Nat.le_refl _
      · rename_i notices
        simp [notices]

theorem transmit_keeps (l : Link) : l.transmit.buffer = l.buffer ∧ l.transmit.held = l.held := by
  unfold Link.transmit
  split
  · simp
  · split
    · simp
    · split <;> simp

/-- Settling leaves nothing undone (R180, R182). -/
theorem settle_sound {s : State} (h : s.link.Bounded) : (settle s).link.Sound := by
  have bounded := serveFor_bounded s.link.buffer.length s h
  have served := serveFor_served s.link.buffer.length s (waits_le _)
  obtain ⟨buffer, held⟩ := transmit_keeps (serve s).link
  refine ⟨?_, (transmit_notices_le _).trans bounded.notices, ?_, ?_, transmit_chosen _, ?_⟩
  · exact buffer.symm ▸ bounded.buffer
  · exact buffer.symm ▸ bounded.inHand
  · exact LinkQuiet.of_buffer (t := settle s) served buffer
  · exact held.symm ▸ bounded.receiver

/-! ## Receiving -/

theorem receiveFrame_bounded {s : State} (h : s.link.Bounded) (f : LinkFrame) : (receiveFrame f s).link.Bounded := by
  unfold receiveFrame
  split
  · rename_i room
    refine h.withBuffer ?_ ?_
    · rw [List.length_append, List.length_singleton]
      exact room
    · simpa using h.inHand
  · exact h

/-- A frame in assembly is shorter than the longest frame (R176, R178). -/
theorem partialFrame_length {tail : List Byte} (h : assemble tail = .partialFrame) : tail.length < 1006 := by
  unfold assemble at h
  split at h
  · dsimp only at h
    split at h
    · cases h
    · rename_i high low rest short
      split at h
      · rename_i kind serial body
        split at h
        · rename_i missing
          simp only [List.length_cons]
          omega
        · split at h <;> cases h
      · rename_i few
        match rest, few with
        | [], _ => simp
        | [_], _ => simp
        | k :: s :: body, few => exact absurd rfl (few k s body)
  · rename_i few
    match tail, few with
    | [], _ => simp
    | [_], _ => simp
    | a :: b :: rest, few => exact absurd rfl (few a b rest)

theorem hunt_bounded (n : Nat) (bytes : List Byte) (s : State) (h : s.link.Bounded) : (hunt n bytes s).link.Bounded := by
  induction n generalizing bytes s with
  | zero => exact ⟨h.buffer, h.notices, h.inHand, .inl rfl⟩
  | succ n ih =>
    unfold hunt
    split
    · exact ⟨h.buffer, h.notices, h.inHand, .inl rfl⟩
    · exact ⟨h.buffer, h.notices, h.inHand, .inl rfl⟩
    · rename_i hn
      cases hn
      split
      · rename_i sync
        split
        · rename_i partialFrame
          have short := partialFrame_length partialFrame
          exact ⟨h.buffer, h.notices, h.inHand, .inr ⟨by rw [sync]; rfl, by
            show (_ :: _ : List Byte).length < 1007
            simp only [List.length_cons]
            omega⟩⟩
        · exact ih _ _ h
        · exact ih _ _ (settle_sound (receiveFrame_bounded h _)).bounded
      · exact ih _ _ h

theorem interByteGap_bounded {s : State} (h : s.link.Bounded) : (interByteGapEvent s).link.Bounded := by
  unfold interByteGapEvent
  split
  · exact h
  · exact hunt_bounded _ _ _ h

/-! ## Sending and resets -/

theorem dropAnswered_sublist (buffer : List BufferEntry) : (dropAnswered buffer).Sublist buffer := by
  induction buffer with
  | nil => exact .slnil
  | cons e rest ih =>
    unfold dropAnswered
    split
    · exact List.sublist_cons_self e rest
    · exact ih.cons_cons e

theorem restartPart_bounded (s : State) : (restartPart s).link.Bounded :=
  ⟨Nat.zero_le 8, Nat.le_add_left 1 31, Nat.zero_le 1, .inl rfl⟩

theorem frameSent_sound {s : State} (h : s.link.Sound) : (frameSent s).link.Sound := by
  unfold frameSent
  split
  · exact h
  · exact settle_sound ⟨h.buffer, h.notices, h.inHand, h.receiver⟩
  · split
    · exact settle_sound (restartPart_bounded s)
    · have fewer := dropAnswered_sublist s.link.buffer
      exact settle_sound ⟨fewer.length_le.trans h.buffer, h.notices,
        (fewer.filter _).length_le.trans h.inHand, h.receiver⟩

theorem restartReset_sound {s : State} (h : s.link.Sound) : (restartResetEvent s).link.Sound := by
  unfold restartResetEvent
  split
  · exact settle_sound (restartPart_bounded s)
  · exact h

theorem reset_sound : State.reset.link.Sound :=
  ⟨Nat.zero_le 8, Nat.zero_le 32, Nat.zero_le 1, Or.inr fun _ he => absurd he (by simp [State.reset]),
    fun none => (nomatch none), Or.inl rfl⟩

theorem frameStart_sound (line : Line) (strobe : Bool) {s : State} (h : s.link.Bounded) :
    (frameStart line strobe s).link.Sound := by
  have worked := (frameWork_queues line strobe s).bounded h
  refine settle_sound ?_
  unfold frameBegun
  split
  · exact answered_bounded worked _
  · exact worked

/-! ## Every command -/

theorem goOn_sound {K : Notice → Prop} {s u : State} (q : Queues K s u) (h : s.link.Sound) : (settle u).link.Sound :=
  settle_sound (q.bounded h.bounded)

theorem goOn_same {s u : State} (same : u.link = s.link) (h : s.link.Sound) : (settle u).link.Sound :=
  settle_sound (same.symm ▸ h.bounded)

theorem requestArrives_sound (f : LinkFrame) {s : State} (h : s.link.Sound) : (requestArrives f s).link.Sound :=
  settle_sound (receiveFrame_bounded h.bounded f)

theorem receiveBytes_sound (bytes : List Byte) {s : State} (h : s.link.Sound) :
    (settle (receiveBytes bytes s)).link.Sound :=
  settle_sound (hunt_bounded _ _ s h.bounded)

theorem exec_link_sound {c : Instr} {s t : State} (h : s.link.Sound) (e : exec c s = .next t) : t.link.Sound := by
  cases c <;> unfold exec at e <;> dsimp only at e
  case portFrameStrobe =>
    unfold execPortFrameStrobe at e
    split at e <;> cases e
    · exact frameStart_sound _ _ h.bounded
    · exact goOn_same (by simp) h
  all_goals cases e
  case powerOnReset => exact reset_sound
  case laneFrameStart => exact frameStart_sound _ _ h.bounded
  case referenceLost => exact goOn_sound (referenceLostEvent_queues s) h
  case switchGuardExpired => exact goOn_same (by simp) h
  case programmeStall =>
    refine goOn_sound (K := fun _ => True) ?_ h
    unfold stallEvent
    split
    · exact (stall_queues _ s).mono fun _ _ => trivial
    · exact .refl s
  case cellArrival => exact goOn_sound (cellArrives_queues _ _ _ s) h
  case audioBlockArrival => exact goOn_same (audioArrives_link _ _ _ _ s) h
  case micSample => exact goOn_same (by simp) h
  case repeatEnd => exact goOn_sound (repeatEndEvent_queues s) h
  case gapEnd => exact goOn_sound (gapEndEvent_queues s) h
  case liveTimeout => exact goOn_sound (liveTimeoutEvent_queues s) h
  case peakPeriodEnd => exact goOn_same (by simp) h
  case alarmAccepted => exact goOn_sound (alarmAcceptedEvent_queues s) h
  case secondTick => exact goOn_sound (secondTickEvent_queues s) h
  case minuteTick => exact goOn_sound (minuteTickEvent_queues s) h
  case ringLimit => exact goOn_sound (ringLimitEvent_queues _ s) h
  case laneTrained =>
    refine goOn_sound (K := Notice.OfLanes) ?_ h
    unfold laneTrainedEvent
    split
    · exact laneTrains_queues _ s
    · exact .refl s
  case laneSyncLoss =>
    refine goOn_sound (K := Notice.OfLanes) ?_ h
    unfold laneSyncLossEvent
    split
    · exact laneLoses_queues _ s
    · exact .refl s
  case trailerArrival => exact goOn_same (trailerArrives_link _ _ _ s) h
  case upstreamSlot => exact goOn_sound (slotArrives_queues _ _ s) h
  case berthPresent => exact goOn_sound (berthPresentEvent_queues _ s) h
  case berthAbsent => exact goOn_sound (berthAbsentEvent_queues _ s) h
  case statusFieldAccepted => exact goOn_sound (fieldAcceptedEvent_queues _ _ s) h
  case autoSnapshot => exact goOn_same (by simp) h
  case frameReceived => exact receiveBytes_sound _ h
  case interByteGap => exact settle_sound (interByteGap_bounded h.bounded)
  case transmitFrameDone => exact frameSent_sound h
  case restartReset => exact restartReset_sound h
  case syncByte => exact receiveBytes_sound _ h
  case lengthAbove1000 => exact receiveBytes_sound _ h
  all_goals exact requestArrives_sound _ h

/-- Settles O51: every command ends in settling, which hands over what can be handed over and lets the transmitter
choose, and nothing before it exceeds a capacity. -/
theorem linkStaysSound : Obligations.LinkStaysSound := by
  intro s t sound e
  unfold step at e
  split at e
  · cases e
    exact sound
  · rename_i c rest _
    exact exec_link_sound (s := { s with pending := rest }) sound e

end Sys2Proof.Machine
end

section
/-! The step, the resets and RESTART (R188, R189). -/

namespace Sys2Proof.Machine

/-! ## The step -/

/-- Settles O1: both branches of the step. -/
theorem stepRunsFrontCommand : Obligations.StepRunsFrontCommand := by
  intro s
  refine ⟨fun c rest front => ?_, fun empty => ?_⟩
  · simp only [step, front]
  · simp only [step, empty]

theorem keeps_pending (q : List Instr) : Keeps fun s => s.pending = q := by
  constructor
  case passOn =>
    intro r p s h
    rw [← h]
    cases r <;> simp [passOn, replied]
  case powerOn => exact fun _ h => h
  case restart => exact fun _ h => h
  all_goals
    intros
    rename_i h
    rw [← h]
    simp [raise, setLink]

theorem exec_completes (c : Instr) (s : State) : ∃ t, exec c s = .next t := by
  cases c
  case portFrameStrobe line =>
    unfold exec execPortFrameStrobe
    dsimp only
    split
    · exact ⟨_, rfl⟩
    · exact ⟨_, rfl⟩
  all_goals exact ⟨_, rfl⟩

/-- Settles O2: no act changes the queue of commands. -/
theorem everyCommandCompletes : Obligations.EveryCommandCompletes := by
  intro c s
  obtain ⟨t, e⟩ := exec_completes c s
  exact ⟨t, e, (keeps_pending s.pending).exec rfl e⟩

/-! ## Power-on -/

theorem reset_routes (b : Berth) : State.reset.routes[b] = {} := by simp [State.reset]

theorem reset_programmes (p : ProgrammeNo) : State.reset.programmes[p] = {} := by simp [State.reset]

theorem reset_mixer (b : Berth) : State.reset.mixer.berths[b] = {} := by simp [State.reset]

theorem reset_stops (t : StopNo) : State.reset.wake.stops[t] = {} := by simp [State.reset]

theorem reset_lanes (l : LaneNo) : State.reset.lanes[l] = {} := by simp [State.reset]

theorem reset_berths (b : Berth) : State.reset.berths[b] = {} := by simp [State.reset]

theorem reset_variant (c : ClipNo) (v : Fin 4) : State.reset.clips.variant c v = {} := by
  simp [State.reset, Clips.variant]

/-- Settles O3: the values of the state right after reset, table by table. -/
theorem powerOnResetValues : Obligations.PowerOnResetValues := by
  refine ⟨fun s => rfl, by decide, fun b => ?_, fun p => ?_, ⟨rfl, rfl, rfl, rfl, rfl, rfl⟩, fun c v => reset_variant c v,
    by rw [State.reset], by decide, fun b => ?_, rfl, rfl, rfl, fun t => reset_stops t, rfl, rfl, fun l => ?_,
    fun b => ?_, ⟨rfl, rfl, rfl, rfl, by decide, rfl⟩, rfl, rfl⟩
  · rw [reset_routes]
    exact ⟨by decide, by decide, rfl, rfl, rfl, rfl⟩
  · rw [reset_programmes]
    exact ⟨rfl, rfl, rfl, rfl, rfl, rfl, rfl, rfl, rfl, rfl⟩
  · rw [reset_mixer]
    exact ⟨rfl, rfl, rfl, rfl⟩
  · rw [reset_lanes]
    exact ⟨rfl, rfl, rfl, rfl, rfl⟩
  · rw [reset_berths]
    exact ⟨rfl, rfl, rfl, rfl, rfl, rfl, rfl, rfl⟩

theorem clips_withMem (c : Clips) (h : c.mem = []) : { c with mem := [] } = c := by
  cases c
  cases h
  rfl

/-- Settles O50: every invariant holds of the values after reset. -/
theorem resetIsSound : Obligations.ResetIsSound := by
  have voice := (voiceSound_iff State.reset.voice).mpr lineupSound_fresh
  have clips : HeldClipsReady State.reset := fun r hr => absurd hr (by simp [State.reset, Voice.records])
  have test : State.reset.test.Sound := ⟨by simp [State.reset], by simp [State.reset]⟩
  have pool : State.reset.clips.PoolSound := by
    have fresh := poolSound_fresh []
    rwa [clips_withMem State.reset.clips (by simp only [State.reset])] at fresh
  refine ⟨reset_sound, voice.1, voice.2, clips, ?_, pool, settings_inRange_default, countersBounded_reset,
    programmesSound_reset, emergencySound_default, clockSound_reset, wakeSound_fresh, berthsSound_fresh ?_, test,
    firstFrameEmpty_fresh ?_ ?_⟩
  · show Memory.wf State.reset.clips.mem = true
    simp only [State.reset]
    rfl
  all_goals simp [State.reset, collected]

/-! ## RESTART -/

/-- Whatever the transmitter chooses, the buffer of an answered request ends in its entry. -/
theorem answered_buffer (s : State) (f : LinkFrame) (r : Reply) :
    (s.answered f r).link.buffer = s.link.buffer ++ [{ frame := f, state := .answered r }] :=
  (transmit_keeps _).1

/-- The part that has restarted has nothing to hand over, and sends its READY notice. -/
theorem settle_restartPart (s : State) : settle (restartPart s) = { restartPart s with
    link := { held := [], buffer := [], notices := [], dropped := false, sending := some (.notice (.ready .restart)) } } := by
  rw [settle_quiet _ (.inr fun e he => absurd he (by simp [restartPart]))]
  rfl

theorem sendingRestart_reply {l : Link} (h : sendingRestart l = true) : ∃ f, l.sending = some (.reply f) := by
  unfold sendingRestart at h
  split at h
  · exact ⟨_, ‹_›⟩
  · cases h

theorem exec_restartReset {s : State} (h : sendingRestart s.link = true) :
    exec .restartReset s = .next (settle (restartPart s)) := by
  show Host.Outcome.next (restartResetEvent s) = _
  rw [restartResetEvent, if_pos h]

theorem exec_transmitFrameDone_restart {s : State} (h : sendingRestart s.link = true) :
    exec .transmitFrameDone s = .next (settle (restartPart s)) := by
  show Host.Outcome.next (frameSent s) = _
  obtain ⟨f, sending⟩ := sendingRestart_reply h
  simp only [frameSent, sending, h, if_true]

/-- Settles O4: the answer of RESTART, and the values of every block after it. -/
theorem restartResets : Obligations.RestartResets := by
  refine ⟨fun s serial ready => ⟨?_, ?_⟩, fun s idle => ?_, fun s sending => ?_⟩
  · exact request_replied serial ready rfl (x := (s, okReply [])) rfl
  · rw [answered_buffer]
    simp [handOverHeld, BufferEntry.isRestart, Request.code]
  · show Host.Outcome.next (restartResetEvent s) = _
    rw [restartResetEvent, idle]
    rfl
  · obtain ⟨variant, free, mem⟩ := restart_spec s.clips
    have clips : (settle (restartPart s)).clips = s.clips.restart := by
      rw [settle_restartPart]
      dsimp only
      exact restartPart_clips s
    refine ⟨settle (restartPart s), exec_restartReset sending, exec_transmitFrameDone_restart sending, ?_⟩
    rw [clips]
    rw [settle_restartPart]
    refine ⟨?_, ?_, ?_, ?_, ?_, ?_, ?_, ?_, ?_, ?_, ?_, ?_, fun l => ?_, variant, free, mem, ?_, ?_, ?_⟩
    case refine_11 => simp [restartPart, Clock.restart, inWindow]
    case refine_12 => simp [restartPart, Timer.restart]
    case refine_14 => rfl
    case refine_15 => simp only [restartPart]
    case refine_16 => simp only [restartPart]
    case refine_13 =>
      rw [reset_lanes]
      exact tabulate_get _ _
    all_goals simp only [restartPart, State.reset]

end Sys2Proof.Machine
end

section
/-! The request buffer, the receiver and the transmitter (R176 to R184), and STATUS (R187). -/

namespace Sys2Proof.Machine

/-! ## Settling twice -/

theorem transmit_transmit (l : Link) : l.transmit.transmit = l.transmit := by
  have chosen := transmit_chosen l
  revert chosen
  generalize l.transmit = m
  intro chosen
  unfold Link.transmit
  split
  · rfl
  · rename_i idle
    obtain ⟨empty, none⟩ := chosen idle
    simp [none, empty]

/-- Settling leaves nothing to settle (R180, R182). -/
theorem settle_settle (s : State) : settle (settle s) = settle s := by
  have quiet : LinkQuiet (settle s) :=
    LinkQuiet.of_buffer (serveFor_served s.link.buffer.length s (waits_le _)) (transmit_keeps _).1
  rw [settle_quiet _ quiet]
  exact congrArg (fun l => { serve s with link := l }) (transmit_transmit (serve s).link)

theorem serveFor_held (n : Nat) (s : State) : (serveFor n s).link.held = s.link.held := by
  induction n generalizing s with
  | zero => rfl
  | succ n ih =>
    unfold serveFor
    split
    · rfl
    · split
      · rfl
      · rename_i f buffer _
        have same := (handle_queues f (setLink (fun l => { l with buffer := buffer }) s)).held
        split <;> rename_i s' _ handled <;> rw [handled] at same
        · exact (ih _).trans same
        · exact same

theorem settle_held (s : State) : (settle s).link.held = s.link.held :=
  (transmit_keeps _).2.trans (serveFor_held _ s)

theorem requestArrives_held (f : LinkFrame) (s : State) : (requestArrives f s).link.held = s.link.held := by
  refine (settle_held _).trans ?_
  unfold receiveFrame
  split <;> rfl

/-! ## Hunting -/

/-- The receiver holds other bytes. -/
def holds (held : List Byte) (s : State) : State := setLink (fun l => { l with held := held }) s

theorem holds_same {s : State} {held : List Byte} (h : s.link.held = held) : holds held s = s := by
  subst h
  rfl

/-- Bytes before a sync byte are discarded without a count (R178). -/
theorem hunt_skip {skipped : List Byte} (h : (0xA7 : Byte) ∉ skipped) (n : Nat) (rest : List Byte) (s : State) :
    hunt (skipped.length + n) (skipped ++ rest) s = hunt n rest s := by
  induction skipped with
  | nil => simp
  | cons b skipped ih =>
    obtain ⟨first, others⟩ := not_or.mp (List.mem_cons.not.mp h)
    rw [List.length_cons, Nat.add_right_comm]
    show hunt (skipped.length + n + 1) (b :: (skipped ++ rest)) s = _
    rw [hunt, if_neg (Ne.symm first), ih others]

theorem hunt_nil (n : Nat) (s : State) : hunt n [] s = holds [] s := by
  cases n <;> rfl

theorem hunt_zero (bytes : List Byte) (s : State) : hunt 0 bytes s = holds [] s := by
  rw [hunt]
  rfl

theorem hunt_no_sync {bytes : List Byte} (h : (0xA7 : Byte) ∉ bytes) (n : Nat) (s : State) :
    hunt n bytes s = holds [] s := by
  induction bytes generalizing n with
  | nil => exact hunt_nil n s
  | cons b bytes ih =>
    obtain ⟨first, others⟩ := not_or.mp (List.mem_cons.not.mp h)
    cases n with
    | zero => exact hunt_zero _ s
    | succ n => rw [hunt, if_neg (Ne.symm first), ih others]

/-- A sync byte starts a frame, which is still in assembly, discarded or complete (R178). -/
theorem hunt_sync (n : Nat) (tail : List Byte) (s : State) : hunt (n + 1) (0xA7 :: tail) s =
    match assemble tail with
    | .partialFrame => holds (0xA7 :: tail) s
    | .discarded => hunt n tail (badFrame s)
    | .complete f after => hunt n after (requestArrives f s) := by
  rw [hunt, if_pos rfl]
  rfl

/-! ## Assembly -/

theorem toNat_highByte (w : BitVec 16) : (highByte w).toNat = w.toNat / 256 := by
  have bound := w.isLt
  rw [highByte, BitVec.extractLsb'_toNat, Nat.shiftRight_eq_div_pow]
  exact Nat.mod_eq_of_lt (by omega)

theorem toNat_lowByte (w : BitVec 16) : (lowByte w).toNat = w.toNat % 256 := by
  rw [lowByte, BitVec.extractLsb'_toNat]
  rfl

/-- A number of two bytes reads back from its bytes (R190). -/
theorem length_of_bytes {n : Nat} (h : n < 65536) :
    (highByte (BitVec.ofNat 16 n)).toNat * 256 + (lowByte (BitVec.ofNat 16 n)).toNat = n := by
  rw [toNat_highByte, toNat_lowByte, BitVec.toNat_ofNat]
  omega

/-- A frame of at most 1000 payload bytes is judged by its CRC (R176 to R178). -/
theorem assemble_frame (f : LinkFrame) (crc : BitVec 16) (rest : List Byte) (short : f.payload.length ≤ 1000) :
    assemble (f.covered ++ be16 crc ++ rest) = if crc16 f.covered = crc then .complete f rest else .discarded := by
  have shape : f.covered ++ be16 crc ++ rest =
      highByte (BitVec.ofNat 16 f.payload.length) :: lowByte (BitVec.ofNat 16 f.payload.length) ::
        f.kind :: f.serial :: (f.payload ++ be16 crc ++ rest) := by
    simp [LinkFrame.covered, u16, be16]
  have long : ¬ (f.payload ++ be16 crc ++ rest).length < f.payload.length + 2 := by
    simp [be16]
  have body : (f.payload ++ be16 crc ++ rest).take f.payload.length = f.payload := by simp
  have after : (f.payload ++ be16 crc ++ rest).drop (f.payload.length + 2) = rest := by
    rw [← List.drop_drop]
    simp [be16]
  rw [shape]
  unfold assemble
  simp only [length_of_bytes (show f.payload.length < 65536 by omega), if_neg (Nat.not_lt.mpr short), if_neg long,
    body, after, field16_append]

theorem assemble_too_long {high low : Byte} (rest : List Byte) (h : 1000 < high.toNat * 256 + low.toNat) :
    assemble (high :: low :: rest) = .discarded := by
  unfold assemble
  exact if_pos h

/-- Fewer than four bytes after the sync byte, with no length above 1000, are still in assembly (R178). -/
theorem assemble_few {kept : List Byte} (few : kept.length < 4)
    (short : ∀ high low rest, kept = high :: low :: rest → high.toNat * 256 + low.toNat ≤ 1000) :
    assemble kept = .partialFrame := by
  match kept, few with
  | [], _ => rfl
  | [_], _ => rfl
  | [h, l], _ =>
    unfold assemble
    exact if_neg (Nat.not_lt.mpr (short h l [] rfl))
  | [h, l, x], _ =>
    unfold assemble
    exact if_neg (Nat.not_lt.mpr (short h l [x] rfl))

/-! ## Received bytes -/

theorem exec_frameReceived (bytes : List Byte) (s : State) :
    exec (.frameReceived bytes) s = .next (settle (receiveBytes bytes s)) := rfl

theorem receiveBytes_hunting {s : State} (h : s.link.held = []) (bytes : List Byte) :
    receiveBytes bytes s = hunt (bytes.length + 1) bytes s := by
  rw [receiveBytes, h]
  rfl

/-- The bytes of a whole frame are the arrival of its request (R178, R179). -/
theorem exec_frameReceived_frame {s : State} (f : LinkFrame) (held : s.link.held = [])
    (short : f.payload.length ≤ 1000) : exec (.frameReceived f.bytes) s = .next (requestArrives f s) := by
  have complete := assemble_frame f (crc16 f.covered) [] short
  rw [List.append_nil, if_pos rfl] at complete
  have hunted : receiveBytes f.bytes s = requestArrives f s := by
    rw [receiveBytes_hunting held, LinkFrame.bytes, hunt_sync, complete]
    dsimp only
    rw [hunt_nil, holds_same ((requestArrives_held f s).trans held)]
  rw [exec_frameReceived, hunted]
  exact congrArg Host.Outcome.next (settle_settle _)

theorem settle_holds {s : State} (h : LinkQuiet s) (held : List Byte) : settle (holds held s) = (holds held s).sent :=
  settle_quiet _ (h.of_buffer rfl)

theorem settle_badFrame {s : State} (h : LinkQuiet s) (held : List Byte) :
    settle (holds held (badFrame s)) = (raise .badFrames 1 (holds held s)).sent :=
  settle_quiet _ (h.of_buffer rfl)

/-- Settles O6: hunting, assembly and their outcomes, byte run by byte run. -/
theorem receiverTakesAndDiscards : Obligations.ReceiverTakesAndDiscards := by
  refine ⟨fun f => ⟨rfl, by simp [LinkFrame.bytes, LinkFrame.covered, u16, be16]⟩, by decide +kernel,
    fun s f held short => exec_frameReceived_frame f held short, fun s quiet => ⟨fun held => ?_, fun bytes held noSync => ?_,
    fun f crc held short wrong noSync => ?_, fun high low held long => ?_, fun held => ?_, fun tail held noSync => ?_,
    fun skipped kept held noSync few short => ?_⟩⟩
  · show Host.Outcome.next (settle (receiveBytes [0xA7] s)) = _
    rw [receiveBytes_hunting held, hunt_sync]
    exact congrArg Host.Outcome.next (settle_holds quiet [0xA7])
  · rw [exec_frameReceived, receiveBytes_hunting held, hunt_no_sync noSync, holds_same held, settle_quiet s quiet]
  · have discarded := assemble_frame f crc [] short
    rw [List.append_nil, if_neg wrong] at discarded
    rw [exec_frameReceived, receiveBytes_hunting held, hunt_sync, discarded]
    dsimp only
    rw [hunt_no_sync noSync, settle_badFrame quiet, holds_same held]
  · show Host.Outcome.next (settle (receiveBytes [high, low] s)) = _
    have hunted : receiveBytes [high, low] s = hunt 3 [high, low] (badFrame s) := by
      rw [receiveBytes, held]
      show hunt 4 (0xA7 :: [high, low]) s = _
      rw [hunt_sync, assemble_too_long [] long]
    have found : hunt 3 [high, low] (badFrame s) =
        holds (if high = 0xA7 then [0xA7, low] else if low = 0xA7 then [0xA7] else []) (badFrame s) := by
      by_cases first : high = 0xA7
      · rw [if_pos first, first, hunt_sync]
        rfl
      · rw [if_neg first, hunt, if_neg first]
        by_cases second : low = 0xA7
        · rw [if_pos second, second, hunt_sync]
          rfl
        · rw [if_neg second, hunt_no_sync (by simpa using Ne.symm second)]
    rw [hunted, found, settle_badFrame quiet]
    rfl
  · show Host.Outcome.next (settle (interByteGapEvent s)) = _
    rw [interByteGapEvent, held]
    exact congrArg Host.Outcome.next (settle_quiet s quiet)
  · show Host.Outcome.next (settle (interByteGapEvent s)) = _
    rw [interByteGapEvent, held]
    dsimp only
    rw [hunt_no_sync noSync, settle_badFrame quiet]
    rfl
  · show Host.Outcome.next (settle (interByteGapEvent s)) = _
    rw [interByteGapEvent, held]
    dsimp only
    rw [List.length_append, Nat.add_assoc, hunt_skip noSync, List.length_cons, hunt_sync, assemble_few few short]
    exact congrArg Host.Outcome.next (settle_badFrame quiet _)

end Sys2Proof.Machine
end

section
/-! The request buffer and hand-over, the transmitter and STATUS (R179 to R184, R187). -/

namespace Sys2Proof.Machine

/-! ## Requests that arrive -/

theorem exec_brings {s : State} {c : Instr} {f : LinkFrame} (h : Brings s c f) :
    exec c s = .next (requestArrives f s) := by
  rcases h with row | ⟨rfl, held, short⟩
  · exact exec_carried s row
  · exact exec_frameReceived_frame f held short

theorem codes_assigned : allRequests.map Request.code = assignedKinds := by decide

theorem requestOf_unassigned {kind : Byte} (h : kind ∉ assignedKinds) : requestOf kind = none := by
  rw [← codes_assigned] at h
  refine List.find?_eq_none.mpr fun r hr same => h ?_
  rw [← eq_of_beq same]
  exact List.mem_map_of_mem hr

theorem handle_unassigned {f : LinkFrame} (h : f.kind ∉ assignedKinds) (s : State) :
    handle f s = (s, .reply (refuse .unknownRequest)) := by
  simp only [handle, requestOf_unassigned h]

/-- The kinds of a fixed payload length, with their lengths (section 11.7.2). -/
def fixedLengths : List (Byte × Nat) :=
  (allRequests.filter (· ≠ .clipData)).map fun r => (r.code, (requiredLength r []).getD 0)

theorem requiredLength_fixed {r : Request} (h : r ≠ .clipData) (p : List Byte) :
    requiredLength r p = some ((requiredLength r []).getD 0) := by
  cases r
  case clipData => exact absurd rfl h
  all_goals rfl

theorem toNat_append_byte (a b : Byte) : (a ++ b : BitVec 16).toNat = a.toNat * 256 + b.toNat := by
  have bound := b.isLt
  rw [BitVec.toNat_append, Nat.shiftLeft_eq, Nat.mul_comm, ← Nat.two_pow_add_eq_or_of_lt bound]

theorem handle_wrongLength {f : LinkFrame} {r : Request} (code : f.kind = r.code)
    (wrong : requiredLength r f.payload ≠ some f.payload.length) (s : State) :
    handle f s = (s, .reply (refuse .badLength)) := by
  obtain ⟨kind, serial, payload⟩ := f
  cases code
  exact handle_badLength serial s wrong

/-- A frame of a length other than its kind's is refused (R180). -/
theorem handle_of_lengths {f : LinkFrame} (h : (∃ n, (f.kind, n) ∈ fixedLengths ∧ f.payload.length ≠ n) ∨
    (f.kind = 0x29 ∧ (f.payload.length < 8 ∨
      f.payload.length ≠ 8 + 2 * ((f.payload.getD 6 0).toNat * 256 + (f.payload.getD 7 0).toNat)))) (s : State) :
    handle f s = (s, .reply (refuse .badLength)) := by
  rcases h with ⟨n, listed, wrong⟩ | ⟨kind, wrong⟩
  · obtain ⟨r, hr, same⟩ := List.mem_map.mp listed
    obtain ⟨code, length⟩ := Prod.mk.inj same
    have fixed := requiredLength_fixed (by simpa using (List.mem_filter.mp hr).2) f.payload
    refine handle_wrongLength code.symm ?_ s
    rw [fixed, length]
    exact fun same => wrong (Option.some.inj same).symm
  · refine handle_wrongLength (r := .clipData) kind ?_ s
    rw [requiredLength]
    split
    · exact nofun
    · rename_i long
      intro same
      have count : (field16 f.payload 6).toNat =
          (f.payload.getD 6 0).toNat * 256 + (f.payload.getD 7 0).toNat := toNat_append_byte _ _
      rw [count] at same
      rcases wrong with short | wrong
      · exact long short
      · exact wrong (Option.some.inj same).symm

theorem request_refused {f : LinkFrame} {s : State} {r : Reply} (ready : LinkReady s)
    (handled : handle f s = (s, .reply r)) : requestArrives f s = s.answered f r := by
  rw [request_ready f s ready, handled]

/-! ## The oldest request that waits -/

section
variable {s t : State} {ahead behind : List BufferEntry} {f : LinkFrame}
  (buffer : s.link.buffer = ahead ++ { frame := f, state := .waiting } :: behind)
  (passed : ∀ e ∈ ahead, e.state ≠ .waiting) (free : handOverHeld s.link.buffer = false)
include buffer free

/-- No entry that stands beside the one in hand is in hand too. -/
theorem answer_first {r : Reply} : answerInHand r (putBuffer (ahead ++ { frame := f, state := .inHand } :: behind) t) =
    putBuffer (ahead ++ { frame := f, state := .answered r } :: behind) t := by
  have others : ∀ e ∈ ahead ++ behind, e.state ≠ .inHand := by
    intro e he inHand
    have held : handOverHeld s.link.buffer = true := by
      refine List.any_eq_true.mpr ⟨e, ?_, by simp [inHand]⟩
      rw [buffer]
      rcases List.mem_append.mp he with front | back
      · exact List.mem_append_left _ front
      · exact List.mem_append_right _ (List.mem_cons_of_mem _ back)
    rw [free] at held
    cases held
  have keep (l : List BufferEntry) (sub : ∀ e ∈ l, e ∈ ahead ++ behind) :
      l.map (fun e => if e.state = .inHand then { e with state := EntryState.answered r } else e) = l := by
    refine (List.map_congr_left fun e he => if_neg (others e (sub e he))).trans (List.map_id _)
  show putBuffer (List.map _ (ahead ++ { frame := f, state := .inHand } :: behind)) t = _
  rw [List.map_append, List.map_cons, keep ahead fun e => List.mem_append_left _,
    keep behind fun e => List.mem_append_right _, if_pos rfl]

include passed

/-- The oldest WAITING request is handed over first (R180). -/
theorem serve_first : serve s =
    match handle f (putBuffer (ahead ++ { frame := f, state := .inHand } :: behind) s) with
    | (s', .reply r) => serveFor (ahead.length + behind.length) (answerInHand r s')
    | (s', .held) => s' := by
  have length : s.link.buffer.length = ahead.length + behind.length + 1 := by
    rw [buffer, List.length_append, List.length_cons, Nat.add_assoc]
  rw [serve, length]
  exact serveFor_one free (by rw [buffer]; exact takeOldest_front passed f behind)

theorem settle_held_first (handled : handle f s = (t, .held)) :
    settle s = (putBuffer (ahead ++ { frame := f, state := .inHand } :: behind) t).sent := by
  rw [settle, serve_first buffer passed free, handle_put, handled]
  rfl

theorem settle_answered_first {r : Reply} (handled : handle f s = (t, .reply r)) :
    settle s = settle (putBuffer (ahead ++ { frame := f, state := .answered r } :: behind) t) := by
  have answered := answer_first (t := t) (r := r) buffer free
  have length : waits (ahead ++ { frame := f, state := .answered r } :: behind) ≤ ahead.length + behind.length := by
    have fewer : waits (ahead ++ { frame := f, state := .answered r } :: behind) = waits (ahead ++ behind) := by
      simp [waits]
    rw [fewer, ← List.length_append]
    exact waits_le _
  have served : serve s = serve (putBuffer (ahead ++ { frame := f, state := .answered r } :: behind) t) := by
    rw [serve_first buffer passed free, handle_put, handled]
    dsimp only
    rw [answered]
    exact serveFor_enough _ _ _ length (waits_le _)
  rw [settle, served]
  rfl

end

/-- Settles O5: every request frame is buffered, dropped, refused or handed over. -/
theorem requestsAreBufferedAndChecked : Obligations.RequestsAreBufferedAndChecked := by
  refine ⟨fun s c f brings => ?_, fun s t ahead behind f buffer passed free => ⟨fun handled => ?_, fun r handled => ?_⟩⟩
  · rw [exec_brings brings]
    refine ⟨fun full quiet => ?_, fun room held => ?_, fun ready unassigned => ?_, fun ready => ?_⟩
    · rw [request_full f s (Nat.le_of_eq full.symm)]
      exact congrArg Host.Outcome.next (settle_quiet _ (quiet.of_buffer rfl))
    · exact congrArg Host.Outcome.next (request_waits f s room held)
    · rw [request_refused ready (handle_unassigned unassigned s)]
    · intro lengths short count wrong
      have listed : lengths = fixedLengths := by decide
      rw [request_refused ready (handle_of_lengths (listed ▸ wrong) s)]
  · exact settle_held_first buffer passed free handled
  · exact settle_answered_first buffer passed free handled

/-! ## The transmitter -/

section
variable {ahead behind : List BufferEntry} {f : LinkFrame} {r : Reply}

theorem oldestAnswered_none {buffer : List BufferEntry} (h : ∀ e ∈ buffer, e.state = .waiting ∨ e.state = .inHand) :
    oldestAnswered buffer = none := by
  induction buffer with
  | nil => rfl
  | cons e rest ih =>
    obtain ⟨first, others⟩ := List.forall_mem_cons.mp h
    unfold oldestAnswered
    rcases first with state | state <;> rw [state] <;> exact ih others

theorem oldestAnswered_front (h : ∀ e ∈ ahead, e.state = .waiting ∨ e.state = .inHand) :
    oldestAnswered (ahead ++ { frame := f, state := .answered r } :: behind) = some (f, r) := by
  induction ahead with
  | nil => rfl
  | cons e rest ih =>
    obtain ⟨first, others⟩ := List.forall_mem_cons.mp h
    rw [List.cons_append]
    unfold oldestAnswered
    rcases first with state | state <;> rw [state] <;> exact ih others

theorem dropAnswered_front (h : ∀ e ∈ ahead, e.state = .waiting ∨ e.state = .inHand) :
    dropAnswered (ahead ++ { frame := f, state := .answered r } :: behind) = ahead ++ behind := by
  induction ahead with
  | nil => rfl
  | cons e rest ih =>
    obtain ⟨first, others⟩ := List.forall_mem_cons.mp h
    rw [List.cons_append, List.cons_append]
    unfold dropAnswered
    rcases first with state | state <;> rw [state] <;> exact congrArg (e :: ·) (ih others)

/-- An idle transmitter begins the reply of the oldest ANSWERED entry (R182, R184). -/
theorem transmit_reply {l : Link} (idle : l.sending = none) (oldest : oldestAnswered l.buffer = some (f, r)) :
    l.transmit = { l with
      sending := some (.reply
        { kind := replyKind f.kind, serial := f.serial, payload := sentPayload f.kind r l.dropped })
      dropped := droppedAfter f.kind r l.dropped } := by
  simp only [Link.transmit, idle, oldest]

end

theorem sendingRestart_skip {l : Link} {e : BufferEntry} (state : ∀ r, e.state ≠ .answered r) (rest : List BufferEntry) :
    sendingRestart { l with buffer := e :: rest } = sendingRestart { l with buffer := rest } := by
  unfold sendingRestart
  cases other : e.state with
  | answered r => exact absurd other (state r)
  | waiting => simp [other]
  | inHand => simp [other]

section
variable {l : Link} {f : LinkFrame} (sending : l.sending = some (.reply f))
include sending

theorem sendingRestart_answered {e : BufferEntry} {r : Reply} (state : e.state = .answered r) (rest : List BufferEntry) :
    sendingRestart { l with buffer := e :: rest } = e.isRestart := by
  simp [sendingRestart, sending, state]

/-- The entry whose reply is being sent leaves the buffer; what holds the hand-over stays, if that reply is not a
RESTART's (R182, R188). -/
theorem dropAnswered_held {buffer : List BufferEntry} (held : handOverHeld buffer = true)
    (other : sendingRestart { l with buffer := buffer } = false) : handOverHeld (dropAnswered buffer) = true := by
  induction buffer with
  | nil => exact held
  | cons e rest ih =>
    unfold dropAnswered
    rw [handOverHeld, List.any_cons, Bool.or_eq_true] at held
    split
    · rename_i r answered
      rw [sendingRestart_answered sending answered] at other
      simpa [answered, other, handOverHeld] using held
    · rename_i notAnswered
      rw [sendingRestart_skip notAnswered] at other
      rw [handOverHeld, List.any_cons, Bool.or_eq_true]
      exact held.imp_right fun deeper => ih deeper other

end

theorem linkQuiet_dropAnswered {s : State} {f : LinkFrame} (quiet : LinkQuiet s)
    (sending : s.link.sending = some (.reply f)) (other : sendingRestart s.link = false) :
    LinkQuiet (setLink (fun l => { l with sending := none, buffer := dropAnswered l.buffer }) s) := by
  rcases quiet with held | none
  · exact .inl (dropAnswered_held sending held other)
  · exact .inr fun e he => none e ((dropAnswered_sublist _).mem he)

theorem sent_status {kind : Byte} {r : Reply} (h : kind = 0x01 ∧ r.result = .ok) (dropped : Bool) :
    sentPayload kind r dropped = r.payload ++ [flag dropped] ∧ droppedAfter kind r dropped = false :=
  ⟨if_pos h, if_pos h⟩

theorem sent_other {kind : Byte} {r : Reply} (h : ¬ (kind = 0x01 ∧ r.result = .ok)) (dropped : Bool) :
    sentPayload kind r dropped = r.payload ∧ droppedAfter kind r dropped = dropped :=
  ⟨if_neg h, if_neg h⟩

/-- Settles O7: what each outcome of a sending leaves, the transmitter's choice, and the frame of each notice. -/
theorem transmitterSendsRepliesFirst : Obligations.TransmitterSendsRepliesFirst := by
  refine ⟨fun s quiet => ⟨fun idle => ?_, fun n sending => ?_, fun f sending other => ?_⟩,
    fun l ahead behind f r idle buffer first => ⟨?_, ?_⟩, fun l idle none => ⟨fun n rest notices => ?_, fun empty => ?_⟩,
    fun l busy => ?_, fun f => rfl, fun n => ?_⟩
  · show Host.Outcome.next (frameSent s) = _
    rw [frameSent, idle]
  · show Host.Outcome.next (frameSent s) = _
    rw [frameSent, sending]
    exact congrArg Host.Outcome.next (settle_quiet _ (quiet.of_buffer rfl))
  · show Host.Outcome.next (frameSent s) = _
    simp only [frameSent, sending, other, Bool.false_eq_true, if_false]
    exact congrArg Host.Outcome.next (settle_quiet _ (linkQuiet_dropAnswered quiet sending other))
  · rw [buffer, dropAnswered_front first]
  · rw [transmit_reply idle (by rw [buffer]; exact oldestAnswered_front first)]
    by_cases status : f.kind = 0x01 ∧ r.result = .ok
    · rw [(sent_status status _).1, (sent_status status _).2, if_pos status, status.1]
      rfl
    · rw [(sent_other status _).1, (sent_other status _).2, if_neg status]
      rfl
  · simp only [Link.transmit, idle, oldestAnswered_none none, notices]
  · simp only [Link.transmit, idle, oldestAnswered_none none, empty]
  · unfold Link.transmit
    split
    · rfl
    · rename_i idle
      exact absurd idle busy
  · cases n
    case ready k => cases k <;> rfl
    case annEnded _ reason => cases reason <;> rfl
    case wakeState _ _ state reason _ => cases state <;> cases reason <;> rfl
    case programmeState _ x y => cases x <;> cases y <;> rfl
    case laneState _ x y cause => cases x <;> cases y <;> cases cause <;> rfl
    case emergency e l => cases e <;> cases l <;> rfl
    case stackLimit _ c _ _ => cases c <;> rfl
    all_goals rfl

/-! ## STATUS -/

theorem laneCodes (lanes : Vector Lane 4) : lanes.toList.map (fun l => l.state.code) =
    [lanes[0].state.code, lanes[1].state.code, lanes[2].state.code, lanes[3].state.code] := by
  refine List.ext_getElem (by simp) fun i hi _ => ?_
  have bound : i < 4 := by simpa using hi
  interval_cases i <;> simp

/-- Settles O8: the items of STATUS, one by one. -/
theorem statusReports : Obligations.StatusReports := by
  intro s serial ready
  refine (request_replied serial ready rfl (x := handleStatus s) rfl).trans ?_
  refine congrArg (fun items => Host.Outcome.next
    (s.answered { kind := 0x01, serial := serial, payload := [] } (okReply items))) ?_
  rw [statusItems, laneCodes]
  simp only [List.cons_append, List.nil_append, List.cons.injEq, and_true, true_and]
  refine ⟨?line, ?clock, ?voice, ?active, ?reference⟩
  case line => cases s.emergency.accepted <;> rfl
  case clock =>
    unfold clockCode
    cases s.clock.isSet <;> rfl
  case voice =>
    unfold voiceCode
    cases s.voice.active <;> rfl
  case active => cases h : s.voice.active <;> simp [activeId, h]
  case reference => cases s.timer.reference <;> rfl

end Sys2Proof.Machine
end

section
/-! Settings (R185) and the berth route table: staging, TAKE and the derived video (chapter 1). -/

namespace Sys2Proof.Machine

/-- With nothing to hand over, an event that leaves the request buffer alone is followed by the transmitter's choice
alone (R180, R182). -/
theorem goOn_sent {s u : State} (quiet : LinkQuiet s) (same : u.link.buffer = s.link.buffer) :
    goOn u = .next u.sent :=
  congrArg Host.Outcome.next (settle_quiet u (quiet.of_buffer same))

/-! ## SETTING_SET -/

section
variable {number : Byte} {value : BitVec 16} {i : Fin 17} {s : State}

theorem handleSettingSet_of_bad_field (h : number.toNat < 1 ∨ 17 < number.toNat) :
    handleSettingSet number value s = (s, refuse .badField) := by
  simp only [handleSettingSet, indexOf_none h]

theorem handleSettingSet_of_setting (hi : number.toNat = i.val + 1) : handleSettingSet number value s =
    (settingEffects i s.settings { s with settings := s.settings.put i (clampSetting i value.toNat) },
      okReply (number :: u16 (clampSetting i value.toNat))) := by
  simp only [handleSettingSet, indexOf_some hi]

theorem exec_settingSet_of_handler {serial : Byte} {x : State × Reply} (ready : LinkReady s)
    (h : handleSettingSet number value s = x) : exec (.settingSet serial number value) s = .next (x.1.answered
      { kind := 0x03, serial := serial, payload := [number, highByte value, lowByte value] } x.2) := by
  have field : field16 [number, highByte value, lowByte value] 1 = value := high_low value
  have passed : passOn .settingSet [number, highByte value, lowByte value] s = replied x := by
    rw [← h]
    simp only [passOn, field8_cons_zero, field]
  exact request_replied serial ready rfl passed

theorem settingEffects_none (old : Settings) (h0 : i.val ≠ 0) (h1 : i.val ≠ 1) (h11 : i.val ≠ 11) (h15 : i.val ≠ 15) :
    settingEffects i old s = s := by
  unfold settingEffects
  split
  · exact absurd ‹_› h0
  · exact absurd ‹_› h1
  · exact absurd ‹_› h11
  · exact absurd ‹_› h15
  · rfl

theorem settingEffects_night (old : Settings) (h : i.val = 0 ∨ i.val = 1) : settingEffects i old s = evaluateNight s := by
  rcases h with h | h <;> simp only [settingEffects, h]

end

/-- Settles O10: the table, and the branches of the handler with the effects of settings 1, 2, 12 and 16. -/
theorem settingSetClampsAndActs : Obligations.SettingSetClampsAndActs := by
  refine ⟨by decide, by decide, fun s serial number value ready => ?_⟩
  intro f
  refine ⟨fun bad => exec_settingSet_of_handler ready (handleSettingSet_of_bad_field bad), fun i hi => ?_⟩
  intro v t ok
  have answered : exec (.settingSet serial number value) s =
      .next ((settingEffects i s.settings t).answered f ok) :=
    exec_settingSet_of_handler ready (handleSettingSet_of_setting hi)
  refine ⟨fun j ne => Settings.get_put_other _ v ne, fun h0 h1 h11 h15 => ?_, fun night => ?_, fun h15 => ?_, fun h11 => ?_⟩
  · rw [answered, settingEffects_none _ h0 h1 h11 h15]
  · rw [answered, settingEffects_night _ night]
    rfl
  · obtain rfl : i = 15 := Fin.ext h15
    have effect : settingEffects 15 s.settings t = { t with counters := { s.counters with
        autoFrames := if v = s.settings.autoSnapshot then s.counters.autoFrames else 0 } } := by
      show autoSnapshotChanged s.settings.autoSnapshot t = _
      have inForce : t.settings.autoSnapshot = v := rfl
      rw [autoSnapshotChanged, inForce]
      split <;> rfl
    rw [answered, effect]
  · obtain rfl : i = 11 := Fin.ext h11
    intro armed
    have rearmed : rearm t = armed := by
      show (if s.voice.stack.length < v then _ else _) = armed
      by_cases room : s.voice.stack.length < v
      · rw [if_pos room]
        simp only [armed, room, decide_true, Bool.or_true]
        rfl
      · rw [if_neg room]
        simp only [armed, room, decide_false, Bool.or_false]
        rfl
    have effect : settingEffects 11 s.settings t =
        if s.settings.depthLimit < v ∧ s.emergency.latch = false then preemptionCheck armed else armed := by
      show depthLimitChanged s.settings.depthLimit t = _
      rw [depthLimitChanged, rearmed]
      rfl
    rw [answered, effect]

/-! ## Coded fields -/

section
variable {b : Byte}

theorem u8_toNat (b : Byte) : u8 b.toNat = b := by
  rw [u8, BitVec.ofNat_toNat, BitVec.setWidth_eq]

theorem programmeOf_some (h : b.toNat ≤ 6) : ∃ p, programmeOf b = some p ∧ programmeField p = b := by
  by_cases zero : b = 0
  · exact ⟨none, by rw [programmeOf, if_pos zero], zero.symm⟩
  · have positive : 1 ≤ b.toNat := Nat.pos_of_ne_zero fun e => zero (BitVec.eq_of_toNat_eq e)
    refine ⟨some ⟨b.toNat - 1, by omega⟩, ?_, ?_⟩
    · rw [programmeOf, if_neg zero, indexOf_some (i := ⟨b.toNat - 1, by omega⟩) (by dsimp only; omega)]
      rfl
    · rw [programmeField, number]
      dsimp only
      rw [Nat.sub_add_cancel positive, u8_toNat]

theorem programmeOf_none (h : 6 < b.toNat) : programmeOf b = none := by
  have nonzero : b ≠ 0 := fun e => by simp [e] at h
  rw [programmeOf, if_neg nonzero, indexOf_none (.inr h)]
  rfl

theorem conditioningOf_some (h : b.toNat ≤ 2) : ∃ c, conditioningOf b = some c ∧ c.code = b := by
  unfold conditioningOf
  split
  · exact ⟨.pass, rfl, ‹b = 0›.symm⟩
  · split
    · exact ⟨.silence, rfl, ‹b = 1›.symm⟩
    · split
      · exact ⟨.tone, rfl, ‹b = 2›.symm⟩
      · bv_omega

theorem conditioningOf_none (h : 2 < b.toNat) : conditioningOf b = none := by
  unfold conditioningOf
  split
  · simp [*] at h
  · split
    · simp [*] at h
    · split
      · simp [*] at h
      · rfl

theorem cardOf_coded (h : b.toNat ≤ 253) :
    ∃ c, cardOf b = some c ∧ cardField c = b ∧ (b = 0 → c = none) := by
  refine ⟨if b = 0 then none else some b, cardOf_some h, ?_, fun zero => if_pos zero⟩
  split
  · exact ‹b = 0›.symm
  · rfl

theorem yesNo_some (h : b.toNat ≤ 1) : ∃ v, yesNo b = some v ∧ flag v = b ∧ (v = false ↔ b = 0) := by
  unfold yesNo
  split
  · exact ⟨false, rfl, ‹b = 0›.symm, by simpa using ‹b = 0›⟩
  · split
    · exact ⟨true, rfl, ‹b = 1›.symm, by simpa using ‹b ≠ 0›⟩
    · bv_omega

theorem below_coded {n : Nat} (h : b.toNat < n) : ∃ i : Fin n, below n b = some i ∧ u8 i.val = b :=
  ⟨⟨b.toNat, h⟩, below_some rfl, u8_toNat b⟩

end

/-! ## ROUTE_SET -/

section
variable {set : BerthSet} {programme language conditioning card cap speaker now : Byte} {s : State}

/-- A field outside its range, or an empty set (R3). -/
theorem handleRouteSet_of_bad_field
    (bad : set = 0 ∨ 6 < programme.toNat ∨ 3 < language.toNat ∨ 2 < conditioning.toNat ∨ 253 < card.toNat ∨
      15 < cap.toNat ∨ 1 < speaker.toNat ∨ 1 < now.toNat) :
    handleRouteSet set programme language conditioning card cap speaker now s = (s, .reply (refuse .badField)) := by
  have refused (h : routeFields programme language conditioning card cap speaker = none ∨ yesNo now = none ∨ set = 0) :
      handleRouteSet set programme language conditioning card cap speaker now s = (s, .reply (refuse .badField)) := by
    unfold handleRouteSet
    split
    · rename_i r n fields flag
      rcases h with none | none | empty
      · rw [none] at fields
        cases fields
      · rw [none] at flag
        cases flag
      · rw [if_pos empty]
    · rfl
  refine refused ?_
  unfold routeFields
  rcases bad with h | h | h | h | h | h | h | h
  · exact .inr (.inr h)
  · exact .inl (by rw [programmeOf_none h])
  · exact .inl (by rw [below_none h]; cases programmeOf programme <;> rfl)
  · exact .inl (by rw [conditioningOf_none h]; cases programmeOf programme <;> cases below 4 language <;> rfl)
  · exact .inl (by
      rw [cardOf_none h]
      cases programmeOf programme <;> cases below 4 language <;> cases conditioningOf conditioning <;> rfl)
  · refine .inl ?_
    split
    · rename_i none _
      rw [below_none h] at none
      cases none
    · rfl
  · refine .inl ?_
    split
    · rename_i none
      rw [yesNo_none h] at none
      cases none
    · rfl
  · exact .inr (.inl (yesNo_none h))

/-- The record that the six coded fields stand for (R1, R190). -/
theorem routeFields_coded (hp : programme.toNat ≤ 6) (hl : language.toNat ≤ 3) (hc : conditioning.toNat ≤ 2)
    (hd : card.toNat ≤ 253) (hv : cap.toNat ≤ 15) (hs : speaker.toNat ≤ 1) :
    ∃ r, routeFields programme language conditioning card cap speaker = some r ∧
      r.fields = [programme, language, conditioning, card, cap, speaker] ∧ (card = 0 → r.card = none) := by
  obtain ⟨p, readP, codeP⟩ := programmeOf_some hp
  obtain ⟨l, readL, codeL⟩ := below_coded (Nat.lt_succ_of_le hl)
  obtain ⟨c, readC, codeC⟩ := conditioningOf_some hc
  obtain ⟨d, readD, codeD, noCard⟩ := cardOf_coded hd
  obtain ⟨v, readV, codeV⟩ := below_coded (Nat.lt_succ_of_le hv)
  obtain ⟨sp, readS, codeS, _⟩ := yesNo_some hs
  refine ⟨{ programme := p, language := l, conditioning := c, card := d, cap := v, speaker := sp }, ?_, ?_, noCard⟩
  · simp only [routeFields, readP, readL, readC, readD, readV, readS]
  · simp only [RouteRecord.fields, codeP, codeL, codeC, codeD, codeV, codeS]

theorem passOn_routeSet : passOn .routeSet
      (setField set ++ [programme, language, conditioning, card, cap, speaker, now]) s =
    handleRouteSet set programme language conditioning card cap speaker now s := by
  have read : fieldSet (setField set ++ [programme, language, conditioning, card, cap, speaker, now]) 0 = set := by
    simpa using fieldSet_setField [] [programme, language, conditioning, card, cap, speaker, now] set
  rw [passOn, read]
  rfl

end

/-- Settles O11: a refused request, and one whose fields stand in the staged records of its set. -/
theorem routeSetStages : Obligations.RouteSetStages := by
  intro s serial set programme language conditioning card cap speaker now ready f bad
  have handled := request_handled (r := .routeSet) serial
    (p := setField set ++ [programme, language, conditioning, card, cap, speaker, now]) ready (by simp [requiredLength])
  rw [passOn_routeSet] at handled
  refine ⟨fun isBad => ?_, fun isGood => ?_⟩
  · rw [handleRouteSet_of_bad_field isBad] at handled
    exact handled
  · simp only [bad, not_or, not_lt] at isGood
    obtain ⟨filled, hp, hl, hc, hd, hv, hs, hn⟩ := isGood
    obtain ⟨r, fields, coded, noCard⟩ := routeFields_coded hp hl hc hd hv hs
    obtain ⟨n, flag, _, zero⟩ := yesNo_some hn
    refine ⟨r, stage set r s, coded, noCard, rfl, fun b => tabulate_get _ _, ?_⟩
    have staged : handleRouteSet set programme language conditioning card cap speaker now s =
        (stage set r s, if n then .held else .reply (okReply [])) := by
      simp only [handleRouteSet, fields, flag, if_neg filled]
    rw [staged] at handled
    refine handled.trans ?_
    cases n with
    | false =>
      rw [if_pos (zero.mp rfl)]
      rfl
    | true =>
      rw [if_neg fun e => nomatch zero.mpr e]
      rfl

/-! ## The route table at a lane frame start -/

section
variable (line : Line) (strobe : Bool) (s : State)

theorem takeWaits_iff : takeWaits s = true ↔ ∃ e ∈ s.link.buffer, e.state = .inHand := by
  simp [takeWaits]

/-- What a berth's record is once its guard has counted and a TAKE has been applied (steps 1 and 2 of R8). -/
def BerthRoute.taken (x : BerthRoute) (take : Bool) (guard : Nat) : BerthRoute :=
  if take then x.countGuard.takeStaged guard else x.countGuard

theorem derive_keeps (x : BerthRoute) (c : Option Byte) (cells : List VideoCell) :
    (x.derive c cells).staged = x.staged ∧ (x.derive c cells).active = x.active ∧
      (x.derive c cells).guard = x.guard := by
  unfold BerthRoute.derive
  split
  · exact ⟨rfl, rfl, rfl⟩
  · unfold BerthRoute.showProgramme
    split
    · exact ⟨rfl, rfl, rfl⟩
    · split <;> exact ⟨rfl, rfl, rfl⟩

/-- The lane test set of the frame that the voice channel and the route table read. -/
theorem beforeVoice_frameSet : (beforeVoice line strobe s).test.frameSet = (frameBegun line strobe s).test.frameSet := by
  obtain ⟨buffer, begun⟩ := frameBegun_work line strobe s
  have handed (u : State) : (handOutWords u).test.frameSet = u.test.frameSet := by
    unfold handOutWords
    split <;> rfl
  rw [begun]
  simp [frameWork_eq, beforeMixer, chimeFrame, handed, setLink]

/-- The programmes that the route table reads are those of the frame that has begun. -/
theorem beforeVoice_programmes : (beforeVoice line strobe s).programmes = (frameBegun line strobe s).programmes := by
  rw [(frameBegun_mixed line strobe s).2.2.1]
  simp [beforeMixer, chimeFrame]

/-- A berth's route after a lane frame start, with the values that their owners hold for it (R8). -/
theorem frameBegun_route (b : Berth) :
    (frameBegun line strobe s).routes[b] =
      (s.routes[b].taken (takeWaits s) s.settings.switchGuard).derive
        (berthCardLine (frameBegun line strobe s) b (s.routes[b].taken (takeWaits s) s.settings.switchGuard).active)
        (routedCells (frameBegun line strobe s) (s.routes[b].taken (takeWaits s) s.settings.switchGuard).active) := by
  obtain ⟨emergency, _, _, settings, _, _, routes⟩ := beforeVoice_reads line strobe s
  have voice := frameBegun_voice line strobe s
  have derived : (frameBegun line strobe s).routes[b] = routeFrameOf (takeWaits s)
      (voiceFrame (beforeVoice line strobe s).emergency.latch (beforeVoice line strobe s).test.frameSet
        (beforeVoice line strobe s)) b := by
    rw [(frameBegun_mixed line strobe s).1]
    exact tabulate_get _ _
  rw [derived, routeFrameOf]
  simp only [berthCardLine, routedState, routedCells, ← voice]
  simp only [voiceFrame_keeps, settings, routes, emergency, beforeVoice_frameSet, beforeVoice_programmes,
    BerthRoute.taken]

end

/-! ## TAKE -/

theorem inHand_buffer (s : State) (f : LinkFrame) :
    (s.inHand f).link.buffer = s.link.buffer ++ [{ frame := f, state := .inHand }] :=
  (transmit_keeps _).1

theorem taken_staged (x : BerthRoute) (take : Bool) (guard : Nat) : (x.taken take guard).staged = x.staged := by
  unfold BerthRoute.taken
  split
  · unfold BerthRoute.takeStaged
    split <;> rfl
  · rfl

theorem taken_active (x : BerthRoute) (guard : Nat) : (x.taken true guard).active = x.staged := by
  show (x.countGuard.takeStaged guard).active = _
  unfold BerthRoute.takeStaged
  split <;> rfl

theorem taken_guard (x : BerthRoute) (guard : Nat) : (x.taken true guard).guard =
    if x.staged.programme = x.active.programme then x.guard - 1 else guard := by
  show (x.countGuard.takeStaged guard).guard = _
  unfold BerthRoute.takeStaged
  split <;> rename_i same
  · exact (if_pos same).symm
  · exact (if_neg same).symm

/-- The request buffer after a lane frame start: a TAKE in hand is answered (R5). -/
theorem frameBegun_buffer (line : Line) (strobe : Bool) (s : State) :
    (frameBegun line strobe s).link.buffer = s.link.buffer.map fun e =>
      if e.state = .inHand then { e with state := .answered (okReply []) } else e := by
  have worked := (frameWork_queues line strobe s).buffer
  unfold frameBegun
  split
  · exact congrArg (List.map _) worked
  · rename_i noTake
    rw [worked]
    refine ((List.map_congr_left fun e he => if_neg fun inHand => noTake ?_).trans (List.map_id _)).symm
    exact (takeWaits_iff s).mpr ⟨e, he, inHand⟩

theorem frameBegun_line (line : Line) (strobe : Bool) (s : State) :
    (frameBegun line strobe s).link.held = s.link.held ∧ (frameBegun line strobe s).link.sending = s.link.sending := by
  have worked := frameWork_queues line strobe s
  obtain ⟨buffer, begun⟩ := frameBegun_work line strobe s
  rw [begun]
  exact ⟨worked.held, worked.sending⟩

/-- Settles O12: TAKE is held, and the next lane frame start applies and answers it. -/
theorem takeWaitsForFrameStart : Obligations.TakeWaitsForFrameStart := by
  refine ⟨fun s serial ready => ⟨request_handled (r := .take) serial ready rfl, ?_⟩, fun s line => ⟨rfl, fun strobe => ?_⟩⟩
  · rw [inHand_buffer]
    simp [handOverHeld]
  · intro t takes
    obtain ⟨settings, clips, pending⟩ := frameBegun_leaves line strobe s
    obtain ⟨held, sending⟩ := frameBegun_line line strobe s
    refine ⟨settings, clips, pending, held, sending, frameBegun_buffer line strobe s, fun quiet => settle_quiet t quiet,
      fun b => ?_⟩
    have route := frameBegun_route line strobe s b
    obtain ⟨staged, active, guard⟩ := derive_keeps (s.routes[b].taken (takeWaits s) s.settings.switchGuard)
      (berthCardLine t b (s.routes[b].taken (takeWaits s) s.settings.switchGuard).active)
      (routedCells t (s.routes[b].taken (takeWaits s) s.settings.switchGuard).active)
    rw [← route] at staged active guard
    refine ⟨staged.trans (taken_staged _ _ _), fun noTake => ?_, fun take => ?_⟩
    · have idle : takeWaits s = false := Bool.eq_false_iff.mpr fun h => noTake ((takeWaits_iff s).mp h)
      rw [idle] at active guard
      exact ⟨active, guard⟩
    · rw [(takeWaits_iff s).mpr take] at active guard
      exact ⟨active.trans (taken_active _ _), guard.trans (taken_guard _ _)⟩

/-! ## The derived video -/

/-- Putting a TAKE's change of programme first, the video state before the derivation (R6). -/
theorem taken_video (x : BerthRoute) (take : Bool) (guard : Nat) :
    (x.taken take guard).video =
      if take = true ∧ x.staged.programme ≠ x.active.programme then .waitingEntry else x.video := by
  cases take with
  | false => exact (if_neg fun h => nomatch h.1).symm
  | true =>
    show (x.countGuard.takeStaged guard).video = _
    unfold BerthRoute.takeStaged
    split <;> rename_i same
    · exact (if_neg fun h => h.2 same).symm
    · exact (if_pos ⟨rfl, same⟩).symm

theorem taken_mode (x : BerthRoute) (take : Bool) (guard : Nat) : (x.taken take guard).mode = x.mode := by
  unfold BerthRoute.taken
  split
  · unfold BerthRoute.takeStaged
    split <;> rfl
  · rfl

/-- Programme video for a berth whose programme forwards these cells (R12, R13). -/
theorem showProgramme_spec (x : BerthRoute) (cells : List VideoCell) :
    let y := x.showProgramme cells
    if x.mode ≠ .card ∧ x.video = .passing then
      y.mode = .pass ∧ y.card = 0 ∧ y.cells = cells ∧ y.video = .passing
    else if cells.any VideoCell.entry then
      y.mode = .pass ∧ y.card = 0 ∧ y.cells = cells.dropWhile (fun c => !c.entry) ∧ y.video = .passing
    else y.mode = .hold ∧ y.card = 0 ∧ y.cells = [] ∧ y.video = .waitingEntry := by
  intro y
  by_cases passes : x.mode ≠ .card ∧ x.video = .passing
  · rw [if_pos passes]
    have before : x.videoBefore = .passing := by rw [BerthRoute.videoBefore, if_neg passes.1, passes.2]
    have shown : y = { x with video := .passing, mode := .pass, card := 0, cells := cells } := by
      simp only [y, BerthRoute.showProgramme, before]
    rw [shown]
    exact ⟨rfl, rfl, rfl, rfl⟩
  · rw [if_neg passes]
    have before : x.videoBefore = .waitingEntry := by
      rw [BerthRoute.videoBefore]
      split
      · rfl
      · rename_i notCard
        cases video : x.video with
        | passing => exact absurd ⟨notCard, video⟩ passes
        | waitingEntry => rfl
    split <;> rename_i found
    · have shown : y = { x with video := .passing, mode := .pass, card := 0, cells := fromEntry cells } := by
        simp only [y, BerthRoute.showProgramme, before, found, if_true]
      rw [shown]
      exact ⟨rfl, rfl, rfl, rfl⟩
    · have shown : y = { x with video := .waitingEntry, mode := .hold, card := 0, cells := [] } := by
        simp only [y, BerthRoute.showProgramme, before, found, if_false, Bool.false_eq_true]
      rw [shown]
      exact ⟨rfl, rfl, rfl, rfl⟩

/-- Lines 3 to 6 of R10, with the latch clear and the berth not under test. -/
theorem cardLine_cover (c : Byte) (r : RouteRecord) (state : Option ProgrammeState) :
    cardLine false false (some c) r state = some c := rfl

theorem cardLine_own {c : Byte} {r : RouteRecord} (own : r.card = some c) (state : Option ProgrammeState) :
    cardLine false false none r state = some c := by
  obtain ⟨p, l, cd, card, cap, sp⟩ := r
  cases own
  rfl

theorem cardLine_none {r : RouteRecord} (own : r.card = none) : cardLine false false none r none = some 0 := by
  obtain ⟨p, l, cd, card, cap, sp⟩ := r
  cases own
  rfl

theorem cardLine_running {r : RouteRecord} (own : r.card = none) :
    cardLine false false none r (some .running) = none := by
  obtain ⟨p, l, cd, card, cap, sp⟩ := r
  cases own
  rfl

theorem cardLine_dead {r : RouteRecord} {state : ProgrammeState} (own : r.card = none) (dead : state ≠ .running) :
    cardLine false false none r (some state) = some 254 := by
  obtain ⟨p, l, cd, card, cap, sp⟩ := r
  cases own
  cases state
  case running => exact absurd rfl dead
  all_goals rfl

/-- Settles O13: the lines of R10 in turn, for the record that a TAKE has left. -/
theorem frameStartDerivesVideo : Obligations.FrameStartDerivesVideo := by
  refine fun s line => ⟨rfl, fun strobe b => ?_⟩
  intro t x y retuned video card
  generalize hz : x.taken (takeWaits s) s.settings.switchGuard = z
  have route : y = z.derive (berthCardLine t b z.active) (routedCells t z.active) := by
    rw [← hz]
    exact frameBegun_route line strobe s b
  have before : z.video = video := by
    rw [← hz, taken_video]
    exact if_congr (and_congr_left' (takeWaits_iff s)) rfl rfl
  have mode : z.mode = x.mode := by rw [← hz, taken_mode]
  have active : y.active = z.active := by
    rw [route]
    exact (derive_keeps z _ _).2.1
  have carded {n : Byte} (h : berthCardLine t b z.active = some n) : card n := by
    show y.mode = .card ∧ y.card = n ∧ y.cells = [] ∧ y.video = video
    rw [route, h]
    exact ⟨rfl, rfl, rfl, before⟩
  by_cases latch : t.emergency.latch = true
  · rw [if_pos latch]
    exact carded (by rw [berthCardLine, latch]; rfl)
  rw [if_neg latch]
  by_cases inTest : inSet t.test.frameSet b = true
  · rw [if_pos inTest]
    exact carded (by rw [berthCardLine, Bool.eq_false_iff.mpr latch, inTest]; rfl)
  rw [if_neg inTest, active]
  have cover : coverCard t.voice b = (coveredBy t.voice b).bind Coverage.card := by
    unfold coverCard
    cases coveredBy t.voice b <;> rfl
  have line : berthCardLine t b z.active = cardLine false false ((coveredBy t.voice b).bind Coverage.card) z.active
      (routedState t z.active) := by
    rw [berthCardLine, Bool.eq_false_iff.mpr latch, Bool.eq_false_iff.mpr inTest, cover]
  split
  · rename_i c _ _ cover
    exact carded (by rw [line, cover, cardLine_cover])
  · rename_i c _ cover own
    exact carded (by rw [line, cover, cardLine_own own])
  · rename_i cover own programme
    exact carded (by rw [line, cover, routedState, programme]; exact cardLine_none own)
  · rename_i p cover own programme
    have routed : routedState t z.active = some t.programmes[p].state := by rw [routedState, programme]; rfl
    by_cases running : t.programmes[p].state = .running
    · rw [if_neg (not_not.mpr running)]
      have shown : y = z.showProgramme t.programmes[p].forwardingCells := by
        rw [route, line, cover, routed, running, cardLine_running own, routedCells, programme]
        rfl
      have spec := showProgramme_spec z t.programmes[p].forwardingCells
      rw [← shown, before, mode] at spec
      exact spec
    · rw [if_pos running]
      exact carded (by rw [line, cover, routed, cardLine_dead own running])

end Sys2Proof.Machine
end

section
/-! What a lane frame start makes of the counters, and the counter bank's snapshots (R168 to R172). -/

namespace Sys2Proof.Machine

/-! ## One act among many -/

/-- Of acts on the entries of a table one after the other, those on other entries keep P and Q, and the act on entry i
leads from P to Q. -/
theorem foldl_finRange_at {n : Nat} {f : State → Fin n → State} {P Q : State → Prop} (i : Fin n)
    (before : ∀ s x, x ≠ i → P s → P (f s x)) (here : ∀ s, P s → Q (f s i))
    (after : ∀ s x, x ≠ i → Q s → Q (f s x)) {s : State} (h : P s) : Q ((List.finRange n).foldl f s) := by
  obtain ⟨front, back, split⟩ := List.append_of_mem (List.mem_finRange i)
  have nodup := List.nodup_finRange n
  rw [split, List.nodup_append, List.nodup_cons] at nodup
  obtain ⟨_, ⟨notBack, _⟩, apart⟩ := nodup
  have run {R : State → Prop} {l : List (Fin n)} (others : ∀ x ∈ l, x ≠ i)
      (keeps : ∀ s x, x ≠ i → R s → R (f s x)) {s : State} (h : R s) : R (l.foldl f s) := by
    induction l generalizing s with
    | nil => exact h
    | cons x l ih =>
      obtain ⟨first, rest⟩ := List.forall_mem_cons.mp others
      exact ih rest (keeps s x first h)
  rw [split, List.foldl_append, List.foldl_cons]
  exact run (fun x hx same => notBack (same ▸ hx)) after
    (here _ (run (fun x hx => apart x hx i (List.mem_cons_self ..)) before h))

/-! ## The stages of the bank at a lane frame start -/

/-- A due snapshot taken at place k, as it acts on a reading of the bank. -/
def snapAt {α : Type} (s : State) (take : α → α) (k : Nat) (x : α) : α :=
  if snapshotDue s = true ∧ snapshotPlace s = k then take x else x

/-- What the lane controller finds when it closes the frame just ended. -/
def beforeLanes (line : Line) (strobe : Bool) (s : State) : State :=
  emergencyFrame line (snapshotAt (snapshotDue s) 1 (programmeFrame (snapshotAt (snapshotDue s) 0 (timerFrame strobe s))))

theorem snapshotAt_reading {α : Type} {π : Counters → α} {take : α → α} (taken : ∀ k, π k.take = take (π k)) {s u : State}
    (order : u.orderCount = s.orderCount) (k : Nat) :
    π (snapshotAt (snapshotDue s) k u).counters = snapAt s take k (π u.counters) := by
  have place : snapshotPlace u = snapshotPlace s := by rw [snapshotPlace, snapshotPlace, order]
  unfold snapshotAt snapAt
  dsimp only
  rw [place]
  by_cases due : snapshotDue s = true
  · rw [if_pos due]
    by_cases here : snapshotPlace s = k
    · rw [if_pos here, if_pos ⟨due, here⟩, taken]
    · rw [if_neg here, if_neg fun h => here h.2]
  · rw [if_neg due, if_neg fun h => due h.1]

/-- A reading of the bank when the bank does its own work: what the three blocks that raise counters and the snapshot
have made of it. -/
theorem beforeBank_reading {α : Type} {π : Counters → α} {take g₁ g₂ g₃ : α → α} {line : Line} {strobe : Bool} {s : State}
    (taken : ∀ k, π k.take = take (π k))
    (programmes : ∀ u, u.programmes = s.programmes → u.settings = s.settings →
      π (programmeFrame u).counters = g₁ (π u.counters))
    (lanes : π (closeFrame (beforeLanes line strobe s)).counters = g₂ (π (beforeLanes line strobe s).counters))
    (mixer : ∀ u, u.mixer = s.mixer → π (mixerAccount u).counters = g₃ (π u.counters)) :
    π (beforeBank line strobe s).counters = snapAt s take 3 (g₃ (snapAt s take 2 (g₂ (snapAt s take 1
      (g₁ (snapAt s take 0 (π s.counters))))))) := by
  have mixed : π (beforeBank line strobe s).counters =
      snapAt s take 3 (g₃ (π (beforeMixer line strobe s).counters)) := by
    rw [beforeBank]
    simp only [sendFrames_keeps, mixerOutputs_keeps, handOutWords_keeps, mixerGains_keeps]
    rw [snapshotAt_reading taken (by simp [beforeMixer, beforeVoice, beforeClock]),
      mixer _ (by simp [beforeMixer, beforeVoice, chimeFrame])]
  have closed : π (beforeMixer line strobe s).counters =
      snapAt s take 2 (π (closeFrame (beforeLanes line strobe s)).counters) := by
    rw [← snapshotAt_reading taken (u := closeFrame (beforeLanes line strobe s)) (by simp [beforeLanes])]
    simp [beforeMixer, beforeVoice, beforeClock, beforeLanes, chimeFrame]
  have played : π (beforeLanes line strobe s).counters =
      snapAt s take 1 (g₁ (snapAt s take 0 (π s.counters))) := by
    rw [beforeLanes, (emergencyFrame_keeps line _).2.2.2.2.2.2.2.2.2.2.2.2.1,
      snapshotAt_reading taken (by simp), programmes _ (by simp) (by simp), snapshotAt_reading taken (by simp)]
    simp
  rw [mixed, closed, lanes, played]

/-- A block that raises no counter of a reading leaves it alone. -/
def Unread {α : Type} (π : Counters → α) (c : Counter) : Prop := ∀ n k, π (k.raised c n) = π k

section
variable {α : Type} {π : Counters → α}

theorem programmeFrame_unread (stalls : ∀ p, Unread π (.stalls p)) (gaps : ∀ p, Unread π (.audioGap p)) (s : State) :
    π (programmeFrame s).counters = π s.counters :=
  programmeFrame_counters (Q := fun k => π k = π s.counters) (fun p k h => (stalls p 1 k).trans h)
    (fun p k h => (gaps p 1 k).trans h) rfl

theorem closeFrame_unread (errors : ∀ b, Unread π (.testErr b)) (losses : ∀ l, Unread π (.syncLoss l)) (s : State) :
    π (closeFrame s).counters = π s.counters :=
  closeFrame_counters (Q := fun k => π k = π s.counters) (fun b n k h => (errors b n k).trans h)
    (fun l k h => (losses l 1 k).trans h) rfl

theorem mixerAccount_unread (marks : ∀ b, Unread π (.sat b)) (s : State) : π (mixerAccount s).counters = π s.counters :=
  mixerAccount_counters (Q := fun k => π k = π s.counters) (fun b k h => (marks b 1 k).trans h) rfl

end

theorem snapshotPlace_cases (s : State) :
    snapshotPlace s = 0 ∨ snapshotPlace s = 1 ∨ snapshotPlace s = 2 ∨ snapshotPlace s = 3 := by
  rw [snapshotPlace]
  omega

/-- A snapshot falls due at no more than one of the four places (R174). -/
theorem snapAt_once {α : Type} (s : State) (take : α → α) (x : α) :
    snapAt s take 3 (snapAt s take 2 (snapAt s take 1 (snapAt s take 0 x))) = if snapshotDue s then take x else x := by
  unfold snapAt
  by_cases due : snapshotDue s = true
  · rcases snapshotPlace_cases s with h | h | h | h <;> simp [due, h]
  · simp [due]

/-! ## One counter -/

/-- The live value and the snapshot value of a counter. -/
def Counters.pair (c : Counter) (k : Counters) : Nat × Nat := (k.live[counterIndex c], k.snapshot[counterIndex c])

/-- A snapshot, as it acts on a counter's values (R170). -/
def takePair (x : Nat × Nat) : Nat × Nat := (0, x.1)

/-- A gain of n, as it acts on a counter's values (R168). -/
def gainPair (n : Nat) (x : Nat × Nat) : Nat × Nat := (if n = 0 then x.1 else min (x.1 + n) 65535, x.2)

theorem gainPair_zero : gainPair 0 = id := rfl

theorem pair_take (c : Counter) (k : Counters) : k.take.pair c = takePair (k.pair c) := by
  simp [Counters.pair, Counters.take, takePair]

theorem pair_raised (c : Counter) {n : Nat} (positive : n ≠ 0) (k : Counters) :
    (k.raised c n).pair c = gainPair n (k.pair c) := by
  simp only [Counters.pair, Counters.raised, gainPair, if_neg positive, amend_get, if_true]
  rfl

theorem pair_unread {c d : Counter} (ne : counterIndex d ≠ counterIndex c) : Unread (Counters.pair c) d := by
  intro n k
  simp only [Counters.pair, Counters.raised, amend_get, if_neg ne]

/-- The end of the bank's work changes no counter (R171). -/
theorem closeBank_pair (c : Counter) (due : Bool) (s : State) :
    (closeBank due s).counters.pair c = s.counters.pair c := by
  unfold closeBank
  split <;> rfl

theorem frameBegun_counters (line : Line) (strobe : Bool) (s : State) :
    (frameBegun line strobe s).counters = (closeBank (snapshotDue s) (beforeBank line strobe s)).counters := by
  obtain ⟨buffer, begun⟩ := frameBegun_work line strobe s
  rw [begun, frameWork_bank]
  rfl

/-- One gain of n on the way: it stands behind a due snapshot or before it (R174). -/
theorem snapAt_gain (s : State) (x : Nat × Nat) {n n₁ n₂ n₃ : Nat}
    (one : (n₁ = n ∧ n₂ = 0 ∧ n₃ = 0) ∨ (n₁ = 0 ∧ n₂ = n ∧ n₃ = 0) ∨ (n₁ = 0 ∧ n₂ = 0 ∧ n₃ = n)) :
    let y := snapAt s takePair 3 (gainPair n₃ (snapAt s takePair 2 (gainPair n₂ (snapAt s takePair 1
      (gainPair n₁ (snapAt s takePair 0 x))))))
    if snapshotDue s then y = takePair (gainPair n x) ∨ y = gainPair n (takePair x) else y = gainPair n x := by
  by_cases due : snapshotDue s = true
  · rcases one with ⟨rfl, rfl, rfl⟩ | ⟨rfl, rfl, rfl⟩ | ⟨rfl, rfl, rfl⟩ <;>
      rcases snapshotPlace_cases s with h | h | h | h <;> simp [snapAt, due, h, gainPair_zero]
  · rcases one with ⟨rfl, rfl, rfl⟩ | ⟨rfl, rfl, rfl⟩ | ⟨rfl, rfl, rfl⟩ <;>
      simp [snapAt, due, gainPair_zero]

theorem gainPair_takePair (n : Nat) (x : Nat × Nat) : gainPair n (takePair x) = (min n 65535, x.1) := by
  unfold gainPair takePair
  split
  · rename_i none
    rw [none]
    rfl
  · rw [Nat.zero_add]

/-- A counter that one block raises by n: the gain stands before or behind a due snapshot (R168, R171, R174). -/
theorem countsAtFrame_of {line : Line} {strobe : Bool} {s : State} {c : Counter} {n n₁ n₂ n₃ : Nat}
    (programmes : ∀ u, u.programmes = s.programmes → u.settings = s.settings →
      (programmeFrame u).counters.pair c = gainPair n₁ (u.counters.pair c))
    (lanes : (closeFrame (beforeLanes line strobe s)).counters.pair c =
      gainPair n₂ ((beforeLanes line strobe s).counters.pair c))
    (mixer : ∀ u, u.mixer = s.mixer → (mixerAccount u).counters.pair c = gainPair n₃ (u.counters.pair c))
    (one : (n₁ = n ∧ n₂ = 0 ∧ n₃ = 0) ∨ (n₁ = 0 ∧ n₂ = n ∧ n₃ = 0) ∨ (n₁ = 0 ∧ n₂ = 0 ∧ n₃ = n)) :
    CountsAtFrame s (frameBegun line strobe s) c n := by
  have reading := beforeBank_reading (pair_take c) programmes lanes mixer
  rw [← closeBank_pair c (snapshotDue s), ← frameBegun_counters] at reading
  have gained := snapAt_gain s (s.counters.pair c) one
  dsimp only at gained
  rw [← reading] at gained
  generalize frameBegun line strobe s = t at gained ⊢
  unfold CountsAtFrame
  dsimp only
  by_cases due : snapshotDue s = true
  · rw [if_pos due] at gained ⊢
    refine gained.imp (fun behind => ?_) fun before => ?_
    · exact ⟨congrArg Prod.snd behind, congrArg Prod.fst behind⟩
    · rw [gainPair_takePair] at before
      exact ⟨congrArg Prod.snd before, congrArg Prod.fst before⟩
  · rw [if_neg due] at gained ⊢
    exact congrArg Prod.fst gained

/-! ## Counters that no block raises -/

theorem counterIndex_injective : Function.Injective counterIndex := by
  intro c d same
  have index := congrArg Fin.val same
  cases c <;> cases d <;> simp only [counterIndex] at index <;>
    simp only [Counter.sat.injEq, Counter.slotErr.injEq, Counter.testErr.injEq, Counter.syncLoss.injEq,
      Counter.cellDrop.injEq, Counter.audioGap.injEq, Counter.stalls.injEq, Fin.ext_iff, reduceCtorEq] <;> omega

theorem pair_unread_of_ne {c d : Counter} (ne : d ≠ c) : Unread (Counters.pair c) d :=
  pair_unread fun same => ne (counterIndex_injective same)

section
variable {line : Line} {strobe : Bool} {s : State} {c : Counter} {n : Nat}

theorem countsAtFrame_programmes (errors : ∀ b, c ≠ .testErr b) (losses : ∀ l, c ≠ .syncLoss l) (marks : ∀ b, c ≠ .sat b)
    (programmes : ∀ u, u.programmes = s.programmes → u.settings = s.settings →
      (programmeFrame u).counters.pair c = gainPair n (u.counters.pair c)) :
    CountsAtFrame s (frameBegun line strobe s) c n :=
  countsAtFrame_of (n₂ := 0) (n₃ := 0) programmes
    (closeFrame_unread (fun b => pair_unread_of_ne (errors b).symm) (fun l => pair_unread_of_ne (losses l).symm) _)
    (fun u _ => mixerAccount_unread (fun b => pair_unread_of_ne (marks b).symm) u) (.inl ⟨rfl, rfl, rfl⟩)

theorem countsAtFrame_lanes (stalls : ∀ p, c ≠ .stalls p) (gaps : ∀ p, c ≠ .audioGap p) (marks : ∀ b, c ≠ .sat b)
    (lanes : (closeFrame (beforeLanes line strobe s)).counters.pair c =
      gainPair n ((beforeLanes line strobe s).counters.pair c)) :
    CountsAtFrame s (frameBegun line strobe s) c n :=
  countsAtFrame_of (n₁ := 0) (n₃ := 0)
    (fun u _ _ => programmeFrame_unread (fun p => pair_unread_of_ne (stalls p).symm)
      (fun p => pair_unread_of_ne (gaps p).symm) u) lanes
    (fun u _ => mixerAccount_unread (fun b => pair_unread_of_ne (marks b).symm) u) (.inr (.inl ⟨rfl, rfl, rfl⟩))

theorem countsAtFrame_mixer (stalls : ∀ p, c ≠ .stalls p) (gaps : ∀ p, c ≠ .audioGap p) (errors : ∀ b, c ≠ .testErr b)
    (losses : ∀ l, c ≠ .syncLoss l)
    (mixer : ∀ u, u.mixer = s.mixer → (mixerAccount u).counters.pair c = gainPair n (u.counters.pair c)) :
    CountsAtFrame s (frameBegun line strobe s) c n :=
  countsAtFrame_of (n₁ := 0) (n₂ := 0)
    (fun u _ _ => programmeFrame_unread (fun p => pair_unread_of_ne (stalls p).symm)
      (fun p => pair_unread_of_ne (gaps p).symm) u)
    (closeFrame_unread (fun b => pair_unread_of_ne (errors b).symm) (fun l => pair_unread_of_ne (losses l).symm) _)
    mixer (.inr (.inr ⟨rfl, rfl, rfl⟩))

theorem countsAtFrame_still
    (still : c = .badFrames ∨ c = .droppedRequests ∨ (∃ p, c = .cellDrop p) ∨ (∃ b, c = .slotErr b)) :
    CountsAtFrame s (frameBegun line strobe s) c 0 := by
  refine countsAtFrame_mixer ?_ ?_ ?_ ?_ fun u _ => mixerAccount_unread (fun b => pair_unread_of_ne ?_) u
  all_goals rcases still with rfl | rfl | ⟨p, rfl⟩ | ⟨b, rfl⟩ <;> simp

end

/-! ## The bank's number and its auto period -/

theorem beforeBank_settings (line : Line) (strobe : Bool) (s : State) :
    (beforeBank line strobe s).settings = s.settings := by
  simp [beforeBank, beforeMixer, beforeVoice]

/-- With no snapshot due, the number, the snapshot and the auto frames stay until the auto period advances (R171). -/
theorem frameBegun_bank_notDue {line : Line} {strobe : Bool} {s : State} (notDue : snapshotDue s = false) :
    (frameBegun line strobe s).counters.number = s.counters.number ∧
      (frameBegun line strobe s).counters.snapshot = s.counters.snapshot ∧
      (frameBegun line strobe s).counters.autoFrames =
        if s.settings.autoSnapshot = 1 then s.counters.autoFrames + 1 else 0 := by
  obtain ⟨number, snapshot, frames⟩ := beforeBank_counters line strobe
    (Q := fun k => k.number = s.counters.number ∧ k.snapshot = s.counters.snapshot ∧
      k.autoFrames = s.counters.autoFrames)
    (fun _ _ _ _ _ _ _ h => h) (fun due => by simp [notDue] at due) ⟨rfl, rfl, rfl⟩
  rw [frameBegun_counters, closeBank, notDue, if_neg Bool.false_ne_true, autoPeriod, beforeBank_settings, frames]
  dsimp only
  exact ⟨number, snapshot, rfl⟩

/-- A due snapshot is taken once (R170, R171). -/
theorem frameBegun_bank_due {line : Line} {strobe : Bool} {s : State} (due : snapshotDue s = true) :
    (frameBegun line strobe s).counters.number = s.counters.number + 1 ∧
      (frameBegun line strobe s).counters.autoFrames = 0 := by
  have unread (d : Counter) : Unread (fun k : Counters => (k.number, k.autoFrames)) d := fun _ _ => rfl
  have reading := beforeBank_reading (line := line) (strobe := strobe) (s := s)
    (π := fun k : Counters => (k.number, k.autoFrames)) (take := fun x => (x.1 + 1, 0)) (g₁ := id) (g₂ := id) (g₃ := id)
    (fun _ => rfl) (fun u _ _ => programmeFrame_unread (fun _ => unread _) (fun _ => unread _) u)
    (closeFrame_unread (fun _ => unread _) (fun _ => unread _) _)
    (fun u _ => mixerAccount_unread (fun _ => unread _) u)
  simp only [id] at reading
  rw [snapAt_once, if_pos due] at reading
  rw [frameBegun_counters, closeBank, if_pos due]
  dsimp only at reading ⊢
  exact Prod.mk.inj reading

theorem snapshotDue_iff (s : State) :
    snapshotDue s = true ↔ s.settings.autoSnapshot = 1 ∧ 999 ≤ s.counters.autoFrames := by
  simp only [snapshotDue, Bool.and_eq_true, beq_iff_eq, decide_eq_true_eq]
  omega

theorem snapshotDue_eq_false {s : State} (h : s.settings.autoSnapshot ≠ 1 ∨ s.counters.autoFrames < 999) :
    snapshotDue s = false := by
  rw [Bool.eq_false_iff, Ne, snapshotDue_iff]
  omega

/-- Settles O49: the requested and the automatic snapshot, and the stages of the bank at a lane frame start. -/
theorem counterBankSnapshots : Obligations.CounterBankSnapshots := by
  refine ⟨fun s serial ready => request_replied serial ready rfl (x := handleCountersSnapshot s) rfl,
    fun s quiet => ⟨fun on => ?_, fun off => ?_⟩, fun s line => ⟨rfl, fun strobe => ?_⟩⟩
  · show goOn (autoSnapshotEvent s) = _
    rw [autoSnapshotEvent, if_pos on]
    exact goOn_sent quiet rfl
  · show goOn (autoSnapshotEvent s) = _
    rw [autoSnapshotEvent, if_neg off]
    exact goOn_sent quiet rfl
  · intro t still
    have counts {c : Counter} (h : still c) : CountsAtFrame s t c 0 := countsAtFrame_still h
    refine ⟨fun early c h => ?_, fun off => ?_, fun on early => ?_, fun on last => ?_⟩
    · have count := counts h
      simpa [CountsAtFrame, snapshotDue_eq_false early] using count
    · obtain ⟨number, snapshot, frames⟩ := frameBegun_bank_notDue (line := line) (strobe := strobe)
        (snapshotDue_eq_false (.inl off))
      exact ⟨frames.trans (if_neg off), number, snapshot⟩
    · obtain ⟨number, snapshot, frames⟩ := frameBegun_bank_notDue (line := line) (strobe := strobe)
        (snapshotDue_eq_false (.inr early))
      exact ⟨frames.trans (if_pos on), number, snapshot⟩
    · have due := (snapshotDue_iff s).mpr ⟨on, Nat.le_of_eq last.symm⟩
      obtain ⟨number, frames⟩ := frameBegun_bank_due (line := line) (strobe := strobe) due
      refine ⟨frames, number, fun c h => ?_⟩
      have count := counts h
      simpa [CountsAtFrame, due] using count

end Sys2Proof.Machine
end

section
/-! The programme inputs (chapter 2), what the blocks queue around each of them at a lane frame start, and the events of
counts that are reached. -/

namespace Sys2Proof.Machine

/-! ## Notices at a lane frame start -/

section
variable (line : Line) (strobe : Bool) (s : State)

theorem beforeEmergency_queues : Queues (fun n => n.OfTimer ∨ n.OfProgrammes) s
    (programmeFrame (snapshotAt (snapshotDue s) 0 (timerFrame strobe s))) :=
  (((timerFrame_queues strobe s).mono fun _ h => .inl h).then_ (by simp)).trans
    ((programmeFrame_queues _).mono fun _ h => .inr h)

theorem beforeLanes_queues :
    Queues (fun n => n.OfTimer ∨ n.OfProgrammes ∨ n.OfEmergency) s (beforeLanes line strobe s) :=
  ((beforeEmergency_queues strobe s).mono fun _ h => h.imp_right .inl).trans
    (((emergencyFrame_queues line _).after (by simp)).mono fun _ h => .inr (.inr h))

theorem afterLanes_queues :
    Queues (fun n => n.OfClock ∨ n.OfVoice) (closeFrame (beforeLanes line strobe s)) (beforeMixer line strobe s) :=
  (((clockFrame_queues _).after (by simp [beforeClock, beforeLanes, testFrame])).mono fun _ h => .inl h).trans
    ((beforeMixer_queues line strobe s).mono fun _ h => .inr h)

theorem afterEmergency_queues :
    Queues (fun n => n.OfLanes ∨ n.OfClock ∨ n.OfVoice) (beforeLanes line strobe s) (beforeMixer line strobe s) :=
  ((closeFrame_queues _).mono fun _ h => .inl h).trans ((afterLanes_queues line strobe s).mono fun _ h => .inr h)

theorem afterProgrammes_queues : Queues (fun n => n.OfEmergency ∨ n.OfLanes ∨ n.OfClock ∨ n.OfVoice)
    (programmeFrame (snapshotAt (snapshotDue s) 0 (timerFrame strobe s))) (beforeMixer line strobe s) :=
  (((emergencyFrame_queues line _).after (by simp)).mono fun _ h => .inl h).trans
    ((afterEmergency_queues line strobe s).mono fun _ h => .inr h)

variable {line strobe s} {n : Notice}

/-- The answer to a TAKE queues nothing. -/
theorem reports_frameBegun (h : Reports s (beforeMixer line strobe s) n) : Reports s (frameBegun line strobe s) n := by
  obtain ⟨notices, dropped⟩ := frameBegun_notices line strobe s
  simpa only [Reports, notices, dropped] using h

theorem keepsCount_frameBegun (h : KeepsCount s (beforeMixer line strobe s) n) :
    KeepsCount s (frameBegun line strobe s) n := by
  obtain ⟨notices, _⟩ := frameBegun_notices line strobe s
  simpa only [KeepsCount, notices] using h

end

/-! ## The programmes at a lane frame start -/

/-- The programme stalls at this lane frame start (R28). -/
abbrev Programme.Stalls (limit : Nat) (r : Programme) : Prop :=
  r.state = .running ∧ limit ≤ r.interval.getD 0 + 1

theorem counted_of_stalls {limit : Nat} {r : Programme} (h : r.Stalls limit) :
    r.counted limit = { r with state := .stalled, interval := none } := by
  rw [Programme.counted, if_pos h.1, if_pos h.2]

theorem counted_of_goes_on {limit : Nat} {r : Programme} (h : ¬ r.Stalls limit) :
    r.counted limit =
      { r with interval := if r.state = .running then some (r.interval.getD 0 + 1) else r.interval } := by
  unfold Programme.counted
  split
  · rename_i running
    rw [if_neg fun atLimit => h ⟨running, atLimit⟩]
  · rfl

/-- No usable audio comes for a RUNNING programme (R27). -/
abbrev Programme.Gaps (r : Programme) : Prop := r.state = .running ∧ r.usable = none

section
variable (p : ProgrammeNo) (s : State)

theorem countInterval_counters : (countInterval p s).counters =
    if (s.programmes[p]).Stalls s.settings.stallLimit then s.counters.raised (.stalls p) 1 else s.counters := by
  unfold countInterval
  dsimp only
  by_cases running : s.programmes[p].state = .running
  · rw [if_pos running]
    by_cases atLimit : s.settings.stallLimit ≤ s.programmes[p].interval.getD 0 + 1
    · rw [if_pos atLimit, if_pos ⟨running, atLimit⟩]
      rfl
    · rw [if_neg atLimit, if_neg fun h => atLimit h.2]
      rfl
  · rw [if_neg running, if_neg fun h => running h.1]

theorem countGap_counters : (countGap p s).counters =
    if (s.programmes[p]).Gaps then s.counters.raised (.audioGap p) 1 else s.counters := by
  unfold countGap
  dsimp only
  split <;> rfl

theorem programmeFrameOf_programmes : (programmeFrameOf p s).programmes =
    amend s.programmes p fun r => r.advance.counted s.settings.stallLimit := by
  simp only [programmeFrameOf, countGap_keeps, countInterval_programmes, setProgramme_programmes,
    setProgramme_settings, amend_amend]
  rfl

/-- What one programme's work raises: STALLS when it stalls, AUDIO_GAP for the state then held (R27, R28). -/
theorem programmeFrameOf_counters : (programmeFrameOf p s).counters =
    (if (s.programmes[p].advance.counted s.settings.stallLimit).Gaps then Counters.raised (.audioGap p) 1 else id)
      ((if (s.programmes[p]).Stalls s.settings.stallLimit then Counters.raised (.stalls p) 1 else id) s.counters) := by
  have moved : (countInterval p (setProgramme p Programme.advance s)).programmes[p] =
      s.programmes[p].advance.counted s.settings.stallLimit := by
    rw [countInterval_programmes, setProgramme_programmes, amend_amend, amend_get, if_pos rfl]
    rfl
  have advanced : (setProgramme p Programme.advance s).programmes[p] = s.programmes[p].advance := by
    rw [setProgramme_programmes, amend_get, if_pos rfl]
  rw [programmeFrameOf, countGap_counters, moved, countInterval_counters, advanced]
  by_cases gaps : (s.programmes[p].advance.counted s.settings.stallLimit).Gaps <;>
    by_cases stalls : (s.programmes[p]).Stalls s.settings.stallLimit
  · rw [if_pos gaps, if_pos gaps, if_pos stalls]
    exact congrArg _ (if_pos stalls)
  · rw [if_pos gaps, if_pos gaps, if_neg stalls]
    exact congrArg _ (if_neg stalls)
  · rw [if_neg gaps, if_neg gaps, if_pos stalls]
    exact if_pos stalls
  · rw [if_neg gaps, if_neg gaps, if_neg stalls]
    exact if_neg stalls

end

/-- A counter that a programme's own work alone raises by n (R27, R28). -/
theorem programmeFrame_gain {p : ProgrammeNo} {c : Counter} {n : Nat} {s : State}
    (others : ∀ q, q ≠ p → c ≠ .stalls q ∧ c ≠ .audioGap q)
    (own : ∀ u : State, u.programmes[p] = s.programmes[p] → u.settings = s.settings →
      (programmeFrameOf p u).counters.pair c = gainPair n (u.counters.pair c)) :
    (programmeFrame s).counters.pair c = gainPair n (s.counters.pair c) := by
  have still (u : State) (q : ProgrammeNo) (ne : q ≠ p) :
      (programmeFrameOf q u).counters.pair c = u.counters.pair c := by
    have unread (d : Counter) (h : c ≠ d) (k : Counters) : (k.raised d 1).pair c = k.pair c :=
      pair_unread_of_ne h.symm 1 k
    rw [programmeFrameOf_counters]
    split
    · rw [unread _ (others q ne).2]
      split
      · exact unread _ (others q ne).1 _
      · rfl
    · split
      · exact unread _ (others q ne).1 _
      · rfl
  refine foldl_finRange_at p
    (P := fun u => u.programmes[p] = s.programmes[p] ∧ u.settings = s.settings ∧ u.counters.pair c = s.counters.pair c)
    (Q := fun u => u.counters.pair c = gainPair n (s.counters.pair c)) ?_ ?_ ?_ ⟨rfl, rfl, rfl⟩
  · rintro u q ne ⟨record, settings, pair⟩
    refine ⟨?_, by simpa using settings, (still u q ne).trans pair⟩
    rw [programmeFrameOf_programmes, amend_get, if_neg ne]
    exact record
  · rintro u ⟨record, settings, pair⟩
    rw [own u record settings, pair]
  · intro u q ne h
    exact (still u q ne).trans h

section
variable {s : State} {p : ProgrammeNo}

theorem programmeFrame_stalls : (programmeFrame s).counters.pair (.stalls p) =
    gainPair (if (s.programmes[p]).Stalls s.settings.stallLimit then 1 else 0) (s.counters.pair (.stalls p)) := by
  refine programmeFrame_gain (p := p) (fun q ne => ⟨by simpa using ne.symm, by simp⟩) fun u record settings => ?_
  have unread (k : Counters) : (k.raised (.audioGap p) 1).pair (.stalls p) = k.pair (.stalls p) :=
    pair_unread_of_ne (by simp) 1 k
  rw [programmeFrameOf_counters, record, settings]
  have stalled (k : Counters) :
      ((if (s.programmes[p]).Stalls s.settings.stallLimit then Counters.raised (.stalls p) 1 else id) k).pair (.stalls p) =
        gainPair (if (s.programmes[p]).Stalls s.settings.stallLimit then 1 else 0) (k.pair (.stalls p)) := by
    split
    · exact pair_raised _ Nat.one_ne_zero k
    · rfl
  split
  · rw [unread, stalled]
  · exact stalled _

theorem programmeFrame_gaps : (programmeFrame s).counters.pair (.audioGap p) =
    gainPair (if (s.programmes[p].advance.counted s.settings.stallLimit).Gaps then 1 else 0)
      (s.counters.pair (.audioGap p)) := by
  refine programmeFrame_gain (p := p) (fun q ne => ⟨by simp, by simpa using ne.symm⟩) fun u record settings => ?_
  rw [programmeFrameOf_counters, record, settings]
  have unread (k : Counters) :
      ((if (s.programmes[p]).Stalls s.settings.stallLimit then Counters.raised (.stalls p) 1 else id) k).pair
        (.audioGap p) = k.pair (.audioGap p) := by
    split
    · exact pair_unread_of_ne (by simp) 1 k
    · rfl
  split
  · rw [pair_raised _ Nat.one_ne_zero, unread]
  · exact unread _

/-- A stall is reported (R34). -/
theorem programmeFrameOf_reports (stalls : (s.programmes[p]).Stalls s.settings.stallLimit) :
    Reports s (programmeFrameOf p s) (.programmeState p .running .stalled) := by
  have record : (setProgramme p Programme.advance s).programmes[p] = s.programmes[p].advance := by
    rw [setProgramme_programmes, amend_get, if_pos rfl]
  have stalled : countInterval p (setProgramme p Programme.advance s) = stall p (setProgramme p Programme.advance s) := by
    unfold countInterval
    dsimp only
    rw [record, if_pos (show (s.programmes[p].advance).state = .running from stalls.1), if_pos]
    exact stalls.2
  refine Reports.of_link (t := stall p (setProgramme p Programme.advance s)) ?_ (by simp [programmeFrameOf, stalled])
  exact (Queues.of_link (K := fun _ => True) (s := s) rfl).reports (reports_queueNotice _ _)

theorem programmeFrame_reports (stalls : (s.programmes[p]).Stalls s.settings.stallLimit) :
    Reports s (programmeFrame s) (.programmeState p .running .stalled) := by
  refine foldl_finRange_at p
    (P := fun u => u.programmes[p] = s.programmes[p] ∧ u.settings = s.settings ∧ Queues (fun _ => True) s u)
    (Q := fun u => Reports s u (.programmeState p .running .stalled)) ?_ ?_ ?_ ⟨rfl, rfl, .refl s⟩
  · rintro u q ne ⟨record, settings, queued⟩
    refine ⟨?_, by simpa using settings, queued.trans ((programmeFrameOf_queues q u).mono fun _ _ => trivial)⟩
    rw [programmeFrameOf_programmes, amend_get, if_neg ne]
    exact record
  · rintro u ⟨record, settings, queued⟩
    exact queued.reports (programmeFrameOf_reports (by rwa [record, settings]))
  · intro u q ne h
    exact h.then_ (programmeFrameOf_queues q u)

/-- A programme that does not stall queues nothing. -/
theorem programmeFrameOf_quiet (goesOn : ¬ (s.programmes[p]).Stalls s.settings.stallLimit) :
    (programmeFrameOf p s).link = s.link := by
  have record : (setProgramme p Programme.advance s).programmes[p] = s.programmes[p].advance := by
    rw [setProgramme_programmes, amend_get, if_pos rfl]
  have counted : (countInterval p (setProgramme p Programme.advance s)).link = s.link := by
    unfold countInterval
    dsimp only
    rw [record]
    split
    · rename_i running
      have below : ¬ (setProgramme p Programme.advance s).settings.stallLimit
          ≤ s.programmes[p].advance.interval.getD 0 + 1 := fun atLimit => goesOn ⟨running, atLimit⟩
      rw [if_neg below]
      rfl
    · rfl
  simpa [programmeFrameOf] using counted

/-- Of a programme no notice but that of its stall is queued (R34). -/
theorem programmeFrame_keepsCount {before after : ProgrammeState}
    (other : ¬ ((s.programmes[p]).Stalls s.settings.stallLimit ∧ before = .running ∧ after = .stalled)) :
    KeepsCount s (programmeFrame s) (.programmeState p before after) := by
  have others (u : State) (q : ProgrammeNo) (ne : q ≠ p) :
      KeepsCount u (programmeFrameOf q u) (.programmeState p before after) :=
    (programmeFrameOf_queues q u).keepsCount fun same => ne (Notice.programmeState.inj same).1.symm
  refine foldl_finRange_at p
    (P := fun u => u.programmes[p] = s.programmes[p] ∧ u.settings = s.settings ∧
      KeepsCount s u (.programmeState p before after))
    (Q := fun u => KeepsCount s u (.programmeState p before after)) ?_ ?_ ?_ ⟨rfl, rfl, rfl⟩
  · rintro u q ne ⟨record, settings, kept⟩
    refine ⟨?_, by simpa using settings, kept.trans (others u q ne)⟩
    rw [programmeFrameOf_programmes, amend_get, if_neg ne]
    exact record
  · rintro u ⟨record, settings, kept⟩
    refine kept.trans ?_
    by_cases stalls : (s.programmes[p]).Stalls s.settings.stallLimit
    · refine (programmeFrameOf_queues p u).keepsCount fun same => other ⟨stalls, ?_⟩
      obtain ⟨_, rfl, rfl⟩ := Notice.programmeState.inj same
      exact ⟨rfl, rfl⟩
    · rw [← record, ← settings] at stalls
      exact (Queues.of_link (K := fun _ => False) (programmeFrameOf_quiet stalls)).keepsCount id
  · intro u q ne h
    exact h.trans (others u q ne)

end

/-- Settles O16: every programme's record, its two counters and its notice. -/
theorem frameStartMovesProgrammes : Obligations.FrameStartMovesProgrammes := by
  refine fun s line => ⟨rfl, fun strobe p => ?_⟩
  intro t x y n stalls
  have record : y = x.advance.counted s.settings.stallLimit := by
    show (frameBegun line strobe s).programmes[p] = _
    rw [(frameBegun_inputs line strobe s).2.1, programmeFrame_programme]
    simp only [snapshotAt_keeps, timerFrame_keeps]
    rfl
  have usable : x.advance.usable = match x.receivingAudio with
      | none => none
      | some block => if x.trackCount ≤ block.tracks.length then some block else none := rfl
  have reported (h : stalls) : Reports s t (.programmeState p .running .stalled) := by
    have own := programmeFrame_reports (s := snapshotAt (snapshotDue s) 0 (timerFrame strobe s)) (p := p)
      (by simp only [snapshotAt_keeps, timerFrame_keeps]; exact h)
    exact reports_frameBegun ((((timerFrame_queues strobe s).then_ (by simp)).reports own).then_
      (afterProgrammes_queues line strobe s))
  have quiet (before after : ProgrammeState) (h : ¬ (stalls ∧ before = .running ∧ after = .stalled)) :
      KeepsCount s t (.programmeState p before after) := by
    have own := programmeFrame_keepsCount (s := snapshotAt (snapshotDue s) 0 (timerFrame strobe s)) (p := p)
      (before := before) (after := after)
      (by simp only [snapshotAt_keeps, timerFrame_keeps]; exact h)
    refine keepsCount_frameBegun (KeepsCount.trans (((timerFrame_queues strobe s).then_ (by simp)).keepsCount ?_)
      (own.trans ((afterProgrammes_queues line strobe s).keepsCount ?_)))
    · exact id
    · simp [Notice.OfEmergency, Notice.OfLanes, Notice.OfBerth, Notice.OfLane, Notice.OfClock, Notice.OfVoice]
  have stallCount : CountsAtFrame s t (.stalls p) (if stalls then 1 else 0) :=
    countsAtFrame_programmes (by simp) (by simp) (by simp) fun u programmes settings => by
      rw [programmeFrame_stalls, programmes, settings]
  have gapCount : CountsAtFrame s t (.audioGap p) (if y.state = .running ∧ y.usable = none then 1 else 0) :=
    countsAtFrame_programmes (by simp) (by simp) (by simp) fun u programmes settings => by
      rw [programmeFrame_gaps, programmes, settings, record]
  refine ⟨?_, ?_, ?_, ?_, ?_, ?_, ?_, ?_, ?_, ?_, ?_, ?_, stallCount, gapCount, reported, quiet⟩
  all_goals rw [record]
  case refine_10 =>
    intro h
    rw [counted_of_stalls (r := x.advance) h]
    exact ⟨rfl, rfl⟩
  case refine_11 =>
    intro h
    rw [counted_of_goes_on (r := x.advance) h]
    exact ⟨rfl, rfl⟩
  all_goals
    by_cases h : stalls
    · rw [counted_of_stalls (r := x.advance) h]
      rfl
    · rw [counted_of_goes_on (r := x.advance) h]
      rfl

end Sys2Proof.Machine
end

section
/-! Programme inputs, microphones and the counts that are reached (O17 to O20), and the reports of a berth (O14). -/

namespace Sys2Proof.Machine

/-! ## CELL_ARRIVAL -/

section
variable {number : Byte} {entry : Bool} {video : List Byte} {s : State} {p : ProgrammeNo}

theorem exec_cellArrival (quiet : LinkQuiet s) :
    exec (.cellArrival number entry video) s = .next (cellArrives number entry video s).sent :=
  goOn_sent quiet (cellArrives_queues number entry video s).buffer

theorem cellArrives_lost (h : number.toNat < 1 ∨ 6 < number.toNat ∨ s.mixer.frameOpen = false) :
    cellArrives number entry video s = s := by
  unfold cellArrives
  split
  · rfl
  · rename_i p found
    have unopened : s.mixer.frameOpen = false := by
      by_contra opened
      have outside : number.toNat < 1 ∨ 6 < number.toNat := by
        rcases h with h | h | h
        · exact .inl h
        · exact .inr h
        · exact absurd h opened
      rw [indexOf_none outside] at found
      exact absurd found (by simp)
    rw [if_neg (by rw [begun, unopened]; decide)]

theorem cellArrives_taken (hp : number.toNat = p.val + 1) (opened : s.mixer.frameOpen = true) :
    cellArrives number entry video s =
      if entry then entryPoint p (takeCell p { entry := entry, data := video } s)
      else takeCell p { entry := entry, data := video } s := by
  unfold cellArrives
  rw [indexOf_some hp]
  exact if_pos opened

/-- A cell that arrives moves neither the state nor the interval record of its programme. -/
theorem takeCell_programme (c : VideoCell) : (takeCell p c s).programmes[p] =
    { s.programmes[p] with receivingCells := (takeCell p c s).programmes[p].receivingCells } := by
  unfold takeCell
  split
  · simp only [setProgramme, amend_get_same]
  · rfl

theorem setProgramme_congr {f g : Programme → Programme} (h : f s.programmes[p] = g s.programmes[p]) :
    setProgramme p f s = setProgramme p g s :=
  congrArg (fun v => { s with programmes := v }) (amend_congr s.programmes p h)

theorem entryPoint_running {n : Nat} (running : s.programmes[p].state = .running)
    (counted : s.programmes[p].interval = some n) : entryPoint p s = setProgramme p (fun r => r.record n) s := by
  have recorded : s.programmes[p].record (s.programmes[p].interval.getD 0) = s.programmes[p].record n := by
    rw [counted]
    rfl
  have taken : entryPoint p s = setProgramme p (fun r => r.record (r.interval.getD 0)) s := by
    simp only [entryPoint, running]
  rw [taken]
  exact setProgramme_congr recorded

theorem entryPoint_enters (other : s.programmes[p].state ≠ .running) :
    entryPoint p s = queueNotice (.programmeState p s.programmes[p].state .running)
      (setProgramme p (fun r => { r with state := .running, interval := some 0 }) s) := by
  unfold entryPoint
  dsimp only
  split
  · exact absurd ‹_› other
  · rfl

end

/-- Settles O17: the cell is lost, or taken and then measured as an entry point. -/
theorem cellArrivalIsTaken : Obligations.CellArrivalIsTaken := by
  intro s number entry video quiet
  refine ⟨fun lost => by rw [exec_cellArrival quiet, cellArrives_lost lost], fun p hp opened => ?_⟩
  intro x kept
  have record : kept.programmes[p] = { x with receivingCells := kept.programmes[p].receivingCells } :=
    takeCell_programme _
  have taken : cellArrives number entry video s = if entry then entryPoint p kept else kept :=
    cellArrives_taken hp opened
  have state : kept.programmes[p].state = x.state := by rw [record]
  refine ⟨fun other => ?_, fun marked running n counted => ?_, fun marked other => ?_⟩
  · rw [exec_cellArrival quiet, taken, other]
    rfl
  · have measured : entryPoint p kept = setProgramme p (fun r => r.record n) kept :=
      entryPoint_running (state.trans running) (by rw [record]; exact counted)
    rw [exec_cellArrival quiet, taken, if_pos marked, measured]
    refine congrArg (fun t : State => Host.Outcome.next t.sent) (setProgramme_congr ?_)
    rw [record]
    unfold Programme.record
    cases x.minInterval <;> cases x.maxInterval <;> simp only [Nat.min_def, Nat.max_comm _ n, Nat.max_def]
  · rw [exec_cellArrival quiet, taken, if_pos marked, entryPoint_enters (by rwa [state]), state]

/-! ## AUDIO_BLOCK_ARRIVAL and MIC_SAMPLE -/

section
variable {number field : Byte} {tracks : List (List (Sample × Sample))} {complete : Bool} {s : State} {p : ProgrammeNo}

theorem exec_audioBlockArrival (quiet : LinkQuiet s) :
    exec (.audioBlockArrival number field tracks complete) s = .next (audioArrives number field tracks complete s).sent :=
  goOn_sent quiet (congrArg Link.buffer (audioArrives_link number field tracks complete s))

theorem audioArrives_outside (h : number.toNat < 1 ∨ 6 < number.toNat) :
    audioArrives number field tracks complete s = s := by
  simp only [audioArrives, indexOf_none h]

theorem audioArrives_of_programme (hp : number.toNat = p.val + 1) : audioArrives number field tracks complete s =
    if begun s && complete && audioWellMade field tracks && s.programmes[p].receivingAudio.isNone then
      setProgramme p (fun r => { r with receivingAudio := some { tracks := tracks } }) s
    else s := by
  unfold audioArrives
  rw [indexOf_some hp]

theorem audioArrives_unopened (unopened : s.mixer.frameOpen = false) :
    audioArrives number field tracks complete s = s := by
  unfold audioArrives
  split
  · rfl
  · rw [if_neg (by simp [begun, unopened])]

theorem audioWellMade_iff : audioWellMade field tracks = true ↔
    1 ≤ field.toNat ∧ field.toNat ≤ 4 ∧ tracks.length = field.toNat ∧ ∀ x ∈ tracks, x.length = 48 := by
  simp [audioWellMade, and_assoc]

theorem Voice.collect_micA (v : Voice) (x : Sample) : v.collect .micA x =
    { v with collectingA := if v.collectingA.length < 48 then v.collectingA ++ [x] else v.collectingA } := by
  unfold Voice.collect
  dsimp only
  by_cases room : v.collectingA.length < 48
  · rw [if_pos room, if_pos room]
  · rw [if_neg room, if_neg room]

theorem Voice.collect_micB (v : Voice) (x : Sample) : v.collect .micB x =
    { v with collectingB := if v.collectingB.length < 48 then v.collectingB ++ [x] else v.collectingB } := by
  unfold Voice.collect
  dsimp only
  by_cases room : v.collectingB.length < 48
  · rw [if_pos room, if_pos room]
  · rw [if_neg room, if_neg room]

theorem exec_micSample {mic : Mic} {x : Sample} (quiet : LinkQuiet s) :
    exec (.micSample mic x) s = .next (micArrives mic x s).sent :=
  goOn_sent quiet (by unfold micArrives; split <;> rfl)

theorem micArrives_unopened {mic : Mic} {x : Sample} (unopened : s.mixer.frameOpen = false) : micArrives mic x s = s :=
  if_neg (by simp [begun, unopened])

theorem micArrives_opened {mic : Mic} {x : Sample} (opened : s.mixer.frameOpen = true) :
    micArrives mic x s = setVoice (fun v => v.collect mic x) s :=
  if_pos opened

end

/-- Settles O18: a well made first block and the first 48 samples of a microphone are kept. -/
theorem audioInputsAreCollected : Obligations.AudioInputsAreCollected := by
  refine fun s quiet => ⟨fun unopened => ⟨fun _ _ _ _ => ?_, fun _ _ => ?_⟩, fun opened => ⟨fun number field tracks complete =>
    ⟨fun p hp => ⟨fun whole low high length pairs first => ?_, fun bad => ?_⟩, fun outside => ?_⟩, fun x => ⟨?_, ?_⟩⟩⟩
  · rw [exec_audioBlockArrival quiet, audioArrives_unopened unopened]
  · rw [exec_micSample quiet, micArrives_unopened unopened]
  · have made : audioWellMade field tracks = true := audioWellMade_iff.2 ⟨low, high, length, pairs⟩
    rw [exec_audioBlockArrival quiet, audioArrives_of_programme hp, if_pos]
    rw [begun, opened, whole, made, first]
    rfl
  · rw [exec_audioBlockArrival quiet, audioArrives_of_programme hp, if_neg]
    intro taken
    simp only [Bool.and_eq_true, Option.isNone_iff_eq_none, audioWellMade_iff] at taken
    obtain ⟨⟨⟨-, whole⟩, low, high, length, pairs⟩, first⟩ := taken
    rcases bad with h | h | h | h | ⟨y, mem, h⟩ | h
    · rw [whole] at h
      exact absurd h (by decide)
    · omega
    · omega
    · exact h length
    · exact h (pairs y mem)
    · exact h first
  · rw [exec_audioBlockArrival quiet, audioArrives_outside outside]
  · rw [exec_micSample quiet, micArrives_opened opened]
    refine congrArg (fun t : State => Host.Outcome.next t.sent) (congrArg (fun v => { s with voice := v }) ?_)
    exact Voice.collect_micA _ x
  · rw [exec_micSample quiet, micArrives_opened opened]
    refine congrArg (fun t : State => Host.Outcome.next t.sent) (congrArg (fun v => { s with voice := v }) ?_)
    exact Voice.collect_micB _ x

/-! ## Counts that are reached -/

/-- The level of a running peak is the number of its significant bits (R102). -/
theorem peakLevelOf_bits {peak k : Nat} (low : 2 ^ k ≤ peak) (high : peak < 2 ^ (k + 1)) (bound : k < 15) :
    peakLevelOf peak = k + 1 := by
  have kept : (List.range 16).filter (fun i => decide (2 ^ i ≤ peak)) = List.range (k + 1) := by
    have reached (i : Nat) : 2 ^ i ≤ peak ↔ i < k + 1 := by
      constructor
      · intro h
        exact (Nat.pow_lt_pow_iff_right (by decide)).1 (h.trans_lt high)
      · intro h
        exact (Nat.pow_le_pow_right (by decide) (Nat.lt_succ_iff.1 h)).trans low
    simp only [reached]
    interval_cases k <;> decide
  rw [peakLevelOf, kept, List.length_range]

theorem ringLimitEvent_of_ringing {s : State} {b : Berth} {e : WakeEntry} (found : s.wake.entries.find? (fun x => x.berth == b) = some e)
    (ringing : e.state = .ringing) : ringLimitEvent b s = queueNotice (wakeNotice e .missed .limit 0)
      (setEntries (fun es => es.map fun x =>
        if x.berth = b then { x.miss with ringSeconds := max x.ringSeconds s.settings.ringLimit } else x) s) := by
  have found : entryOf s.wake.entries b = some e := found
  simp only [ringLimitEvent, found, ringing, if_true]

/-- Settles O19: each event takes its count's own effect, and none on another object. -/
theorem reachedCountsAct : Obligations.ReachedCountsAct := by
  refine fun s quiet => ⟨fun b => goOn_sent quiet rfl, fun p => ⟨fun running => ?_, fun other => ?_⟩, ?_, ?_, ?_⟩
  · have stalled : stallEvent p s = stall p s := if_pos running
    show goOn (stallEvent p s) = _
    rw [stalled]
    exact goOn_sent quiet (stall_queues p s).buffer
  · have kept : stallEvent p s = s := if_neg other
    show goOn (stallEvent p s) = _
    rw [kept]
    exact goOn_sent quiet rfl
  · have acts : exec .peakPeriodEnd s = .next (peakPeriodEvent s).sent := goOn_sent quiet rfl
    have curve : s.mixer.endPeriod.curve = s.mixer.curve := by unfold Mixer.endPeriod; rfl
    have period : s.mixer.endPeriod.periodFrames = 0 := by unfold Mixer.endPeriod; rfl
    have isOpen : s.mixer.endPeriod.frameOpen = s.mixer.frameOpen := by unfold Mixer.endPeriod; rfl
    refine ⟨s.mixer.endPeriod, acts, curve, period, isOpen, fun b => ?_⟩
    have record : s.mixer.endPeriod.berths[b] = { s.mixer.berths[b] with
        peakLevel := peakLevelOf s.mixer.berths[b].runningPeak, runningPeak := 0 } := tabulate_get _ b
    rw [record]
    refine ⟨rfl, rfl, rfl, rfl, fun silent => ?_, fun k low high bound => peakLevelOf_bits low high bound⟩
    show peakLevelOf s.mixer.berths[b].runningPeak = 0
    rw [silent]
    decide
  · intro b e found ringing
    show goOn (ringLimitEvent b s) = _
    have own : e.berth = b := by simpa using List.find?_some found
    rw [goOn_sent quiet (ringLimitEvent_queues b s).buffer, ringLimitEvent_of_ringing found ringing, wakeNotice, own]
    rfl
  · intro b other
    have kept : ringLimitEvent b s = s := by
      unfold ringLimitEvent
      split
      · rfl
      · rename_i e found
        exact if_neg (other e found)
    show goOn (ringLimitEvent b s) = _
    rw [kept]
    exact goOn_sent quiet rfl

/-! ## PROGRAMME_SET and PROGRAMME_STATUS -/

section
variable {serial number tracks : Byte} {s : State} {p : ProgrammeNo}

theorem exec_programmeSet_of_handler {x : State × Reply} (ready : LinkReady s) (h : handleProgrammeSet number tracks s = x) :
    exec (.programmeSet serial number tracks) s =
      .next (x.1.answered { kind := 0x18, serial := serial, payload := [number, tracks] } x.2) :=
  request_replied serial ready rfl (congrArg replied h)

theorem exec_programmeStatus_of_handler {x : State × Reply} (ready : LinkReady s) (h : handleProgrammeStatus number s = x) :
    exec (.programmeStatus serial number) s =
      .next (x.1.answered { kind := 0x19, serial := serial, payload := [number] } x.2) :=
  request_replied serial ready rfl (congrArg replied h)

theorem handleProgrammeSet_of_bad_field (h : number.toNat < 1 ∨ 6 < number.toNat ∨ tracks.toNat < 1 ∨ 4 < tracks.toNat) :
    handleProgrammeSet number tracks s = (s, refuse .badField) := by
  unfold handleProgrammeSet
  split
  · rfl
  · rename_i p found
    by_cases outside : number.toNat < 1 ∨ 6 < number.toNat
    · rw [indexOf_none outside] at found
      exact absurd found (by simp)
    · exact if_neg (by omega)

theorem handleProgrammeStatus_of_bad_field (h : number.toNat < 1 ∨ 6 < number.toNat) :
    handleProgrammeStatus number s = (s, refuse .badField) := by
  simp only [handleProgrammeStatus, indexOf_none h]

theorem handleProgrammeStatus_of_programme (hp : number.toNat = p.val + 1) : handleProgrammeStatus number s =
    (setProgramme p (fun r => { r with minInterval := none, maxInterval := none }) s,
      okReply ([s.programmes[p].state.code, u8 s.programmes[p].countInForce] ++
        intervalField s.programmes[p].lastInterval ++ intervalField s.programmes[p].minInterval ++
        intervalField s.programmes[p].maxInterval)) := by
  simp only [handleProgrammeStatus, indexOf_some hp]

theorem handleProgrammeSet_of_count (hp : number.toNat = p.val + 1) (low : 1 ≤ tracks.toNat) (high : tracks.toNat ≤ 4) :
    handleProgrammeSet number tracks s =
      (setProgramme p (fun r => { r with trackCount := tracks.toNat }) s, okReply []) := by
  unfold handleProgrammeSet
  rw [indexOf_some hp]
  exact if_pos ⟨low, high⟩

end

/-- Settles O20: the branches of the two handlers. -/
theorem programmeRequestsAnswer : Obligations.ProgrammeRequestsAnswer := by
  intro s serial number tracks ready
  exact ⟨fun bad => exec_programmeSet_of_handler ready (handleProgrammeSet_of_bad_field bad),
    fun bad => exec_programmeStatus_of_handler ready (handleProgrammeStatus_of_bad_field bad), fun p hp =>
    ⟨fun low high => exec_programmeSet_of_handler ready (handleProgrammeSet_of_count hp low high),
      exec_programmeStatus_of_handler ready (handleProgrammeStatus_of_programme hp)⟩⟩

/-! ## ROUTE_GET and BERTH_STATUS -/

section
variable {serial k : Byte} {s : State} {b : Berth}

theorem exec_routeGet_of_handler {x : State × Reply} (ready : LinkReady s) (h : handleRouteGet k s = x) :
    exec (.routeGet serial k) s = .next (x.1.answered { kind := 0x12, serial := serial, payload := [k] } x.2) :=
  request_replied serial ready rfl (congrArg replied h)

theorem exec_berthStatus_of_handler {x : State × Reply} (ready : LinkReady s) (h : handleBerthStatus k s = x) :
    exec (.berthStatus serial k) s = .next (x.1.answered { kind := 0x13, serial := serial, payload := [k] } x.2) :=
  request_replied serial ready rfl (congrArg replied h)

theorem handleRouteGet_of_bad_field (h : k.toNat < 1 ∨ 40 < k.toNat) : handleRouteGet k s = (s, refuse .badField) := by
  simp only [handleRouteGet, indexOf_none h]

theorem handleRouteGet_of_berth (hb : k.toNat = b.val + 1) : handleRouteGet k s =
    (s, okReply (s.routes[b].staged.fields ++ s.routes[b].active.fields ++
      [u8 s.routes[b].guard, s.routes[b].video.code, s.routes[b].mode.code, s.routes[b].card])) := by
  simp only [handleRouteGet, indexOf_some hb]

theorem handleBerthStatus_of_bad_field (h : k.toNat < 1 ∨ 40 < k.toNat) :
    handleBerthStatus k s = (s, refuse .badField) := by
  simp only [handleBerthStatus, indexOf_none h]

theorem handleBerthStatus_of_berth (hb : k.toNat = b.val + 1) : handleBerthStatus k s =
    (setBerth b (fun x => { x with changePending := false }) s, okReply (berthStatusItems s b)) := by
  simp only [handleBerthStatus, indexOf_some hb]

theorem outputPath_code (latch inTest : Bool) :
    (outputPath latch inTest).code = if latch then 1 else if inTest then 2 else 0 := by
  cases latch <;> cases inTest <;> rfl

end

/-- Settles O14: the items of the two reports, under the latch as it stands. -/
theorem berthReportsAnswer : Obligations.BerthReportsAnswer := by
  intro s serial k ready
  refine ⟨fun bad => ⟨exec_routeGet_of_handler ready (handleRouteGet_of_bad_field bad),
    exec_berthStatus_of_handler ready (handleBerthStatus_of_bad_field bad)⟩, fun b hb =>
    ⟨exec_routeGet_of_handler ready (handleRouteGet_of_berth hb), ?_⟩⟩
  rw [exec_berthStatus_of_handler ready (handleBerthStatus_of_berth hb)]
  refine congrArg (fun items => Host.Outcome.next (State.answered (setBerth b (fun x => { x with changePending := false }) s)
    { kind := 0x13, serial := serial, payload := [k] } (okReply items))) ?_
  unfold berthStatusItems coverageItems wakeItems
  rw [outputPath_code]
  have entry : entryOf s.wake.entries b = s.wake.entries.find? (fun e => e.berth == b) := rfl
  rw [entry]
  cases s.wake.entries.find? (fun e => e.berth == b) <;> cases s.emergency.latch <;> cases coveredBy s.voice b <;> rfl

end Sys2Proof.Machine
end

section
/-! CLIP_OPEN, CLIP_DATA, CLIP_DELETE and CLIP_INFO (O26, O27, O29): the branches of the handlers, and clip memory
after a run of samples. -/

namespace Sys2Proof.Machine

/-! ## CLIP_OPEN -/

/-- The clip store once a variant has taken the first blocks of the free set for n samples (R67, R72). -/
def Clips.withChain (k : Clips) (c : ClipNo) (v : Fin 4) (n : Nat) : Clips :=
  { (k.setVariant c v { state := .loading, declared := n, chain := k.free.take (blocksFor n), written := 0 }) with
    free := k.free.drop (blocksFor n) }

section
variable {serial clip variant : Byte} {count : BitVec 32} {c : ClipNo} {v : Fin 4} {s : State}

theorem exec_clipOpen_of_handler {x : State × Reply} (ready : LinkReady s) (h : handleClipOpen clip variant count s = x) :
    exec (.clipOpen serial clip variant count) s =
      .next (x.1.answered { kind := 0x28, serial := serial, payload := [clip, variant] ++ be32 count } x.2) := by
  have field : field32 ([clip, variant] ++ be32 count) 2 = count := field32_be32 clip variant count []
  have passed : passOn .clipOpen ([clip, variant] ++ be32 count) s = replied x := by
    rw [← h]
    simp only [passOn, field]
    rfl
  exact request_replied serial ready rfl passed

theorem handleClipOpen_of_bad_field (h : clip.toNat < 1 ∨ 64 < clip.toNat ∨ 3 < variant.toNat ∨ count.toNat < 1 ∨
    1048576 < count.toNat) : handleClipOpen clip variant count s = (s, refuse .badField) := by
  unfold handleClipOpen
  split
  · rename_i c v clipFound variantFound
    refine if_pos ?_
    have inClip : ¬ (clip.toNat < 1 ∨ 64 < clip.toNat) := fun bad => by
      rw [indexOf_none bad] at clipFound
      exact absurd clipFound (by simp)
    have inVariant : ¬ 4 ≤ variant.toNat := fun bad => by
      rw [below_none bad] at variantFound
      exact absurd variantFound (by simp)
    omega
  · rfl

variable (hc : clip.toNat = c.val + 1) (hv : variant.toNat = v.val)
  (counted : ¬ (count.toNat < 1 ∨ 1048576 < count.toNat))
include hc hv counted

theorem handleClipOpen_of_exists (h : (s.clips.variant c v).state ≠ .empty) :
    handleClipOpen clip variant count s = (s, refuse .exists) := by
  simp only [handleClipOpen, indexOf_some hc, below_some hv, if_neg counted]
  exact if_pos h

theorem handleClipOpen_of_no_space (empty : (s.clips.variant c v).state = .empty)
    (full : s.clips.free.length < blocksFor count.toNat) :
    handleClipOpen clip variant count s = (s, refuse .noSpace) := by
  simp only [handleClipOpen, indexOf_some hc, below_some hv, if_neg counted, empty, ne_eq, not_true_eq_false, if_false]
  exact if_pos full

theorem handleClipOpen_of_space (empty : (s.clips.variant c v).state = .empty)
    (room : blocksFor count.toNat ≤ s.clips.free.length) : handleClipOpen clip variant count s =
      ({ s with clips := s.clips.withChain c v count.toNat },
        okReply (u16 (blocksFor count.toNat) ++ u16 (s.clips.free.length - blocksFor count.toNat))) := by
  simp only [handleClipOpen, indexOf_some hc, below_some hv, if_neg counted, empty, ne_eq, not_true_eq_false, if_false,
    if_neg (Nat.not_lt.2 room), List.length_drop, Clips.withChain]

end

/-- Settles O26: the branches of the handler; the new chain is the front of the free set. -/
theorem clipOpenAllocates : Obligations.ClipOpenAllocates := by
  intro s serial clip variant count ready f run k
  refine ⟨fun bad => exec_clipOpen_of_handler ready (handleClipOpen_of_bad_field bad), fun c v hc hv low high => ?_⟩
  have counted : ¬ (count.toNat < 1 ∨ 1048576 < count.toNat) := by omega
  refine ⟨fun used => exec_clipOpen_of_handler ready (handleClipOpen_of_exists hc hv counted used),
    fun empty full => exec_clipOpen_of_handler ready (handleClipOpen_of_no_space hc hv counted empty full),
    fun empty room => ⟨{ s with clips := s.clips.withChain c v count.toNat }, rfl, rfl, ?_, fun c' v' other => ?_, rfl,
      exec_clipOpen_of_handler ready (handleClipOpen_of_space hc hv counted empty room)⟩⟩
  · exact (setVariant_variant s.clips c v _ c v).trans (if_pos ⟨rfl, rfl⟩)
  · refine (setVariant_variant s.clips c v _ c' v').trans (if_neg ?_)
    rintro ⟨rfl, rfl⟩
    exact other rfl

/-! ## Clip memory after a run of samples -/

section
variable {mem : List Host.Cell} {chain : List Nat}

/-- A run of samples leaves every byte but its own alone (R73). -/
theorem read_writeSamples_other {samples : List Sample} {offset a : Nat} (wf : Memory.wf mem = true)
    (h : ∀ k < samples.length, a ≠ sampleAddress chain (offset + k) ∧ a ≠ sampleAddress chain (offset + k) + 1) :
    Memory.read (writeSamples mem chain offset samples) a = Memory.read mem a := by
  induction samples generalizing mem offset with
  | nil => rfl
  | cons x samples ih =>
    obtain ⟨high, low⟩ := h 0 (by simp)
    refine (ih (writeSample_wf _ _ _ wf) fun k hk => ?_).trans (read_writeSample_other _ _ _ _ wf high low)
    rw [Nat.add_assoc, Nat.add_comm 1 k]
    exact h (k + 1) (by simpa using hk)

theorem sampleAddress_even (i : Nat) : sampleAddress chain i % 2 = 0 := by
  unfold sampleAddress
  omega

/-- Different samples of a chain without a repeated block have different places (R73). -/
theorem sampleAddress_injective (nodup : chain.Nodup) {i j : Nat} (hi : i < 2048 * chain.length)
    (hj : j < 2048 * chain.length) (same : sampleAddress chain i = sampleAddress chain j) : i = j := by
  have block (n : Nat) (hn : n < 2048 * chain.length) : n / 2048 < chain.length := by omega
  unfold sampleAddress at same
  rw [List.getD_eq_getElem _ _ (block i hi), List.getD_eq_getElem _ _ (block j hj)] at same
  have blocks : chain[i / 2048]'(block i hi) = chain[j / 2048]'(block j hj) := by omega
  have quotient : i / 2048 = j / 2048 := (nodup.getElem_inj_iff).1 blocks
  omega

/-- A run of samples reads back (R73). -/
theorem readSample_writeSamples {samples : List Sample} {offset k : Nat} (wf : Memory.wf mem = true)
    (nodup : chain.Nodup) (room : offset + samples.length ≤ 2048 * chain.length) (hk : k < samples.length) :
    Memory.readSample (writeSamples mem chain offset samples) (sampleAddress chain (offset + k)) = samples.getD k 0 := by
  induction samples generalizing mem offset k with
  | nil => exact absurd hk (by simp)
  | cons x samples ih =>
    have length : (x :: samples).length = samples.length + 1 := rfl
    cases k with
    | zero =>
      have apart (j : Nat) (hj : j < samples.length) :
          sampleAddress chain (offset + 1 + j) ≠ sampleAddress chain offset := fun same => by
        have := sampleAddress_injective nodup (by omega) (by omega) same
        omega
      have even (i : Nat) := sampleAddress_even (chain := chain) i
      have written : Memory.readSample (Memory.writeSample mem (sampleAddress chain offset) x)
          (sampleAddress chain offset) = x := readSample_writeSample _ _ _ wf
      refine Eq.trans ?_ written
      unfold Memory.readSample
      simp only [writeSamples, Nat.add_zero]
      rw [read_writeSamples_other (writeSample_wf _ _ _ wf),
        read_writeSamples_other (writeSample_wf _ _ _ wf)]
      all_goals
        intro j hj
        have := apart j hj
        have := even offset
        have := even (offset + 1 + j)
        omega
    | succ k =>
      rw [← Nat.add_assoc, Nat.add_right_comm]
      exact ih (writeSample_wf _ _ _ wf) (by omega) (by omega)

end

/-! ## CLIP_DATA -/

/-- The clip store once a run of samples of a variant has been stored from its next expected offset on (R74, R75). -/
def Clips.withSamples (k : Clips) (c : ClipNo) (v : Fin 4) (samples : List Sample) : Clips :=
  let x := k.variant c v
  let next := x.written + samples.length
  { (k.setVariant c v { x with written := next, state := if next = x.declared then .ready else .loading }) with
    mem := writeSamples k.mem x.chain x.written samples }

section
variable {serial clip variant : Byte} {offset : BitVec 32} {count : BitVec 16} {samples : List Sample} {c : ClipNo}
  {v : Fin 4} {s : State}

theorem exec_clipData_of_handler {x : State × Reply} (ready : LinkReady s) (length : samples.length = count.toNat)
    (h : handleClipData clip variant offset count samples s = x) :
    exec (.clipData serial clip variant offset count samples) s = .next (x.1.answered
      { kind := 0x29, serial := serial, payload := [clip, variant] ++ be32 offset ++ be16 count ++ (samples.map be16).flatten }
      x.2) := by
  let p : List Byte := [clip, variant] ++ be32 offset ++ be16 count ++ (samples.map be16).flatten
  have offsetField : field32 p 2 = offset := field32_be32 clip variant offset (be16 count ++ (samples.map be16).flatten)
  have countField : field16 p 6 = count := field16_append ([clip, variant] ++ be32 offset) count _
  have samplesField : field16s p 8 count.toNat = samples := by
    rw [← length]
    exact field16s_flatten ([clip, variant] ++ be32 offset ++ be16 count) samples
  have bytes : p.length = 8 + 2 * count.toNat := by
    rw [← length, ← be16_flatten_length samples]
    simp [p, be32, be16]
    omega
  have required : requiredLength .clipData p = some p.length := by
    unfold requiredLength
    rw [countField, bytes]
    exact if_neg (by omega)
  have passed : passOn .clipData p s = replied x := by
    rw [← h]
    simp only [passOn, offsetField, countField, samplesField]
    rfl
  exact request_replied serial ready required passed

theorem handleClipData_of_bad_field (h : clip.toNat < 1 ∨ 64 < clip.toNat ∨ 3 < variant.toNat ∨ count.toNat < 1 ∨
    480 < count.toNat) : handleClipData clip variant offset count samples s = (s, refuse .badField) := by
  unfold handleClipData
  split
  · rename_i c v clipFound variantFound
    refine if_pos ?_
    have inClip : ¬ (clip.toNat < 1 ∨ 64 < clip.toNat) := fun bad => by
      rw [indexOf_none bad] at clipFound
      exact absurd clipFound (by simp)
    have inVariant : ¬ 4 ≤ variant.toNat := fun bad => by
      rw [below_none bad] at variantFound
      exact absurd variantFound (by simp)
    omega
  · rfl

variable (hc : clip.toNat = c.val + 1) (hv : variant.toNat = v.val) (counted : ¬ (count.toNat < 1 ∨ 480 < count.toNat))
include hc hv counted

theorem handleClipData_of_not_loading (h : (s.clips.variant c v).state ≠ .loading) :
    handleClipData clip variant offset count samples s = (s, refuse .wrongState) := by
  simp only [handleClipData, indexOf_some hc, below_some hv, if_neg counted]
  exact if_pos h

variable (loading : (s.clips.variant c v).state = .loading)
include loading

theorem handleClipData_of_out_of_order (h : offset.toNat ≠ (s.clips.variant c v).written) :
    handleClipData clip variant offset count samples s = (s, refuse .outOfOrder) := by
  simp only [handleClipData, indexOf_some hc, below_some hv, if_neg counted, loading, ne_eq, not_true_eq_false, if_false]
  exact if_pos h

variable (inOrder : offset.toNat = (s.clips.variant c v).written)
include inOrder

theorem handleClipData_of_too_many (h : (s.clips.variant c v).declared < (s.clips.variant c v).written + count.toNat) :
    handleClipData clip variant offset count samples s = (s, refuse .badField) := by
  simp only [handleClipData, indexOf_some hc, below_some hv, if_neg counted, loading, inOrder, ne_eq, not_true_eq_false,
    if_false]
  exact if_pos h

theorem handleClipData_of_room (length : samples.length = count.toNat)
    (h : (s.clips.variant c v).written + count.toNat ≤ (s.clips.variant c v).declared) :
    handleClipData clip variant offset count samples s =
      ({ s with clips := s.clips.withSamples c v samples },
        okReply (u32 ((s.clips.variant c v).written + count.toNat))) := by
  simp only [handleClipData, indexOf_some hc, below_some hv, if_neg counted, loading, inOrder, ne_eq, not_true_eq_false,
    if_false, if_neg (Nat.not_lt.2 h), Clips.withSamples, length]

end

/-- Settles O27: the branches of the handler; the samples of an accepted request read back at their places. -/
theorem clipDataStores : Obligations.ClipDataStores := by
  intro s serial clip variant offset count samples ready length f run
  refine ⟨fun bad => exec_clipData_of_handler ready length (handleClipData_of_bad_field bad), fun c v hc hv low high => ?_⟩
  have counted : ¬ (count.toNat < 1 ∨ 480 < count.toNat) := by omega
  intro x
  refine ⟨fun other => exec_clipData_of_handler ready length (handleClipData_of_not_loading hc hv counted other),
    fun loading h => exec_clipData_of_handler ready length (handleClipData_of_out_of_order hc hv counted loading h),
    fun loading inOrder h =>
      exec_clipData_of_handler ready length (handleClipData_of_too_many hc hv counted loading inOrder h),
    fun loading inOrder room wf nodup chained => ⟨{ s with clips := s.clips.withSamples c v samples }, rfl, rfl, fun c' v' other => ?_, ?_, fun k hk => ?_, fun a apart => ?_,
      exec_clipData_of_handler ready length (handleClipData_of_room hc hv counted loading inOrder length room)⟩⟩
  · refine (setVariant_variant s.clips c v _ c' v').trans (if_neg ?_)
    rintro ⟨rfl, rfl⟩
    exact other rfl
  · rw [← length]
    exact (setVariant_variant s.clips c v _ c v).trans (if_pos ⟨rfl, rfl⟩)
  · have fits : x.written + samples.length ≤ 2048 * x.chain.length := by omega
    exact readSample_writeSamples wf nodup fits (by omega)
  · exact read_writeSamples_other wf (by rwa [length])

/-! ## CLIP_DELETE and CLIP_INFO -/

section
variable {serial clip : Byte} {c : ClipNo} {s : State}

theorem exec_clipDelete_of_handler {x : State × Reply} (ready : LinkReady s) (h : handleClipDelete clip s = x) :
    exec (.clipDelete serial clip) s = .next (x.1.answered { kind := 0x2B, serial := serial, payload := [clip] } x.2) :=
  request_replied serial ready rfl (congrArg replied h)

theorem exec_clipInfo_of_handler {x : State × Reply} (ready : LinkReady s) (h : handleClipInfo clip s = x) :
    exec (.clipInfo serial clip) s = .next (x.1.answered { kind := 0x2C, serial := serial, payload := [clip] } x.2) :=
  request_replied serial ready rfl (congrArg replied h)

theorem clipHeld_iff (v : Voice) : clipHeld v c = true ↔ ∃ r ∈ v.records, r.origin = .clip c := by
  simp [clipHeld]

theorem handleClipDelete_of_bad_field (h : clip.toNat < 1 ∨ 64 < clip.toNat) :
    handleClipDelete clip s = (s, refuse .badField) := by
  simp only [handleClipDelete, indexOf_none h]

theorem handleClipDelete_of_held (hc : clip.toNat = c.val + 1) (held : clipHeld s.voice c = true) :
    handleClipDelete clip s = (s, refuse .inUse) := by
  simp only [handleClipDelete, indexOf_some hc, held, if_true]

theorem handleClipDelete_of_free (hc : clip.toNat = c.val + 1) (free : clipHeld s.voice c = false) :
    handleClipDelete clip s = ({ s with clips := s.clips.freeClip c }, okReply (u16 (s.clips.freeClip c).free.length)) := by
  simp only [handleClipDelete, indexOf_some hc, free, Bool.false_eq_true, if_false]

theorem handleClipInfo_of_bad_field (h : clip.toNat < 1 ∨ 64 < clip.toNat) :
    handleClipInfo clip s = (s, refuse .badField) := by
  simp only [handleClipInfo, indexOf_none h]

theorem variants_eq : variants = [0, 1, 2, 3] := by decide

theorem handleClipInfo_of_clip (hc : clip.toNat = c.val + 1) : handleClipInfo clip s = (s, okReply
    ([flag (clipHeld s.voice c)] ++
      [(s.clips.variant c 0).state.code, (s.clips.variant c 1).state.code, (s.clips.variant c 2).state.code,
        (s.clips.variant c 3).state.code] ++
      (u32 (s.clips.variant c 0).declared ++ u32 (s.clips.variant c 1).declared ++
        u32 (s.clips.variant c 2).declared ++ u32 (s.clips.variant c 3).declared) ++
      (u32 (s.clips.variant c 0).written ++ u32 (s.clips.variant c 1).written ++
        u32 (s.clips.variant c 2).written ++ u32 (s.clips.variant c 3).written) ++
      (u16 (s.clips.variant c 0).chain.length ++ u16 (s.clips.variant c 1).chain.length ++
        u16 (s.clips.variant c 2).chain.length ++ u16 (s.clips.variant c 3).chain.length) ++
      u16 s.clips.free.length)) := by
  simp only [handleClipInfo, indexOf_some hc, variants_eq, List.map_cons, List.map_nil, List.flatten_cons,
    List.flatten_nil, List.append_nil, List.append_assoc]

end

/-- Settles O29: a held clip is refused, another is freed variant by variant, and the report is item by item. -/
theorem clipDeleteAndInfo : Obligations.ClipDeleteAndInfo := by
  intro s serial clip ready
  refine ⟨fun bad => ⟨exec_clipDelete_of_handler ready (handleClipDelete_of_bad_field bad),
    exec_clipInfo_of_handler ready (handleClipInfo_of_bad_field bad)⟩, fun c hc => ⟨fun held => ?_, fun free => ?_,
      exec_clipInfo_of_handler ready (handleClipInfo_of_clip hc)⟩⟩
  · exact exec_clipDelete_of_handler ready (handleClipDelete_of_held hc ((clipHeld_iff s.voice).2 held))
  · have notHeld : clipHeld s.voice c = false := by
      rw [Bool.eq_false_iff, Ne, clipHeld_iff]
      rintro ⟨r, mem, origin⟩
      exact free r mem origin
    obtain ⟨freed, blocks, mem⟩ := freeClip_spec s.clips c
    have acts := exec_clipDelete_of_handler (serial := serial) ready (handleClipDelete_of_free hc notHeld)
    generalize s.clips.freeClip c = k at freed blocks mem acts
    refine ⟨{ s with clips := k }, rfl, mem, fun v => ?_, fun c' v other => ?_, blocks, acts⟩
    · refine (freed c v).trans ?_
      by_cases empty : (s.clips.variant c v).state = .empty
      · rw [if_pos empty, if_neg fun h => h.2 empty]
      · rw [if_neg empty, if_pos ⟨rfl, empty⟩]
    · exact (freed c' v).trans (if_neg fun h => other h.1)

end Sys2Proof.Machine
end

section
/-! The berth mixer (chapter 5) after a lane frame start: every berth's record, the gains, the mix and the emergency path
(O31, O32, O33). -/

namespace Sys2Proof.Machine

/-! ## The saturation marks and the peak period -/

/-- A peak period ends at this lane frame start (R102). -/
abbrev Mixer.Ends (m : Mixer) : Prop := m.frameOpen = true ∧ 1000 ≤ m.periodFrames + 1

/-- A berth's record once the frame just ended has been accounted (R101, R102). -/
def Mixer.accounted (m : Mixer) (b : Berth) : MixerBerth :=
  { m.berths[b] with
    saturated := false
    peakLevel := if m.Ends then peakLevelOf m.berths[b].runningPeak else m.berths[b].peakLevel
    runningPeak := if m.Ends then 0 else m.berths[b].runningPeak }

section
variable (s : State)

theorem accountMark_mixer (b : Berth) : (accountMark b s).mixer =
    { s.mixer with berths := amend s.mixer.berths b fun x => { x with saturated := false } } := by
  unfold accountMark
  split
  · simp
  · rename_i clear
    have unmarked : s.mixer.berths[b].saturated = false := by simpa using clear
    have same : amend s.mixer.berths b (fun x => { x with saturated := false }) = s.mixer.berths :=
      amend_self _ _ (by rw [← unmarked])
    rw [same]

theorem accountMarks_fields : (accountMarks s).mixer.curve = s.mixer.curve ∧
    (accountMarks s).mixer.frameOpen = s.mixer.frameOpen ∧
    (accountMarks s).mixer.periodFrames = s.mixer.periodFrames := by
  unfold accountMarks
  exact ⟨foldl_keeps (fun u : State => u.mixer.curve) (f := fun u b => accountMark b u) (fun u b => by rw [accountMark_mixer])
      (List.finRange 40) s,
    foldl_keeps (fun u : State => u.mixer.frameOpen) (f := fun u b => accountMark b u) (fun u b => by rw [accountMark_mixer])
      (List.finRange 40) s,
    foldl_keeps (fun u : State => u.mixer.periodFrames) (f := fun u b => accountMark b u) (fun u b => by rw [accountMark_mixer])
      (List.finRange 40) s⟩

theorem accountMarks_berth (b : Berth) :
    (accountMarks s).mixer.berths[b] = { s.mixer.berths[b] with saturated := false } := by
  have acts (u : State) (b : Berth) (_ : True) :
      (accountMark b u).mixer.berths = amend u.mixer.berths b fun x => { x with saturated := false } := by
    rw [accountMark_mixer]
  generalize all : List.finRange 40 = l
  have nodup : l.Nodup := all ▸ List.nodup_finRange 40
  have reached : b ∈ l := all ▸ List.mem_finRange b
  have marks : accountMarks s = l.foldl (fun u b => accountMark b u) s := by rw [accountMarks, all]
  rw [marks]
  exact (foldl_amend (table := fun u => u.mixer.berths) (I := fun _ => True) (fun _ _ _ => trivial) acts
    nodup trivial b).trans (if_pos reached)

end

section
variable (m : Mixer)

theorem advancePeriod_berth (b : Berth) : m.advancePeriod.berths[b] = if m.Ends then
    { m.berths[b] with peakLevel := peakLevelOf m.berths[b].runningPeak, runningPeak := 0 } else m.berths[b] := by
  unfold Mixer.advancePeriod
  split
  · rename_i opened
    split
    · rename_i due
      exact (tabulate_get _ b).trans (if_pos (c := m.Ends) ⟨opened, due⟩).symm
    · rename_i short
      exact (if_neg (c := m.Ends) fun h => short h.2).symm
  · rename_i shut
    exact (if_neg (c := m.Ends) fun h => shut h.1).symm

theorem advancePeriod_curve : m.advancePeriod.curve = m.curve := by
  unfold Mixer.advancePeriod Mixer.endPeriod
  repeat' split
  all_goals rfl

theorem advancePeriod_frames : m.advancePeriod.periodFrames =
    if m.Ends then 0 else if m.frameOpen then m.periodFrames + 1 else m.periodFrames := by
  unfold Mixer.advancePeriod
  split
  · rename_i opened
    split
    · rename_i due
      exact (if_pos (c := m.Ends) ⟨opened, due⟩).symm
    · rename_i short
      exact (if_neg (c := m.Ends) fun h => short h.2).symm
  · rename_i shut
    exact (if_neg (c := m.Ends) fun h => shut h.1).symm

end

theorem mixerAccount_berth (s : State) (b : Berth) : (mixerAccount s).mixer.berths[b] = s.mixer.accounted b := by
  obtain ⟨-, opened, frames⟩ := accountMarks_fields s
  show ((accountMarks s).mixer.advancePeriod).berths[b] = _
  rw [advancePeriod_berth, accountMarks_berth]
  have ends : (accountMarks s).mixer.Ends ↔ s.mixer.Ends := by rw [Mixer.Ends, opened, frames]
  by_cases h : s.mixer.Ends
  · rw [if_pos (ends.2 h), Mixer.accounted, if_pos h, if_pos h]
  · rw [if_neg (mt ends.1 h), Mixer.accounted, if_neg h, if_neg h]

/-! ## The mixer of the frame that has begun -/

theorem berthGains_congr {s t : State} (b : Berth) (settings : t.settings = s.settings) (curve : t.mixer.curve = s.mixer.curve)
    (emergency : t.emergency = s.emergency) (test : t.test.frameSet = s.test.frameSet) (clock : t.clock = s.clock)
    (berths : t.berths = s.berths) (routes : t.routes = s.routes) (voice : t.voice = s.voice) :
    berthGains t b = berthGains s b := by
  simp only [berthGains, settings, curve, emergency, test, clock, berths, routes, voice]

theorem mixBerth_congr {s t : State} (b : Berth) (gains : t.mixer.berths[b].gains = s.mixer.berths[b].gains)
    (settings : t.settings = s.settings) (programmes : t.programmes = s.programmes) (routes : t.routes = s.routes)
    (clips : t.clips = s.clips) (voice : t.voice = s.voice) (wake : t.wake = s.wake) (words : t.test.words = s.test.words) :
    mixBerth t b = mixBerth s b := by
  simp only [mixBerth, programmePair, routedAudio, gains, settings, programmes, routes, clips, voice, wake, words]

theorem handOutWords_frameSet (s : State) : (handOutWords s).test.frameSet = s.test.frameSet := by
  unfold handOutWords
  split <;> rfl

theorem mixerOutputs_berth (s : State) (b : Berth) :
    (mixerOutputs s).mixer.berths[b] = (s.mixer.berths[b]).mixed (mixBerth s b) := by
  rw [mixerOutputs, setMixer_mixer]
  exact tabulate_get _ b

theorem mixerGains_berth (s : State) (b : Berth) :
    (mixerGains s).mixer.berths[b] = { s.mixer.berths[b] with gains := berthGains s b } := by
  rw [mixerGains, setMixer_mixer]
  exact tabulate_get _ b

/-- What the mixer leaves when it has formed the gains in force. -/
def beforeOutputs (line : Line) (strobe : Bool) (s : State) : State :=
  handOutWords (mixerGains (snapshotAt (snapshotDue s) 3 (mixerAccount (beforeMixer line strobe s))))

section
variable (line : Line) (strobe : Bool) (s : State)

theorem beforeMixer_mixer : (beforeMixer line strobe s).mixer = s.mixer := by simp [beforeMixer, beforeVoice]

/-- The blocks' work after the mixer's gains touches the mixer's outputs, the lanes' frames and the bank alone. -/
theorem frameBegun_outputs : (frameBegun line strobe s).mixer = (mixerOutputs (beforeOutputs line strobe s)).mixer ∧
    (frameBegun line strobe s).settings = (beforeOutputs line strobe s).settings ∧
    (frameBegun line strobe s).routes = (beforeOutputs line strobe s).routes ∧
    (frameBegun line strobe s).programmes = (beforeOutputs line strobe s).programmes ∧
    (frameBegun line strobe s).voice = (beforeOutputs line strobe s).voice ∧
    (frameBegun line strobe s).clips = (beforeOutputs line strobe s).clips ∧
    (frameBegun line strobe s).emergency = (beforeOutputs line strobe s).emergency ∧
    (frameBegun line strobe s).clock = (beforeOutputs line strobe s).clock ∧
    (frameBegun line strobe s).wake = (beforeOutputs line strobe s).wake ∧
    (frameBegun line strobe s).berths = (beforeOutputs line strobe s).berths ∧
    (frameBegun line strobe s).test = (beforeOutputs line strobe s).test := by
  obtain ⟨buffer, h⟩ := frameBegun_work line strobe s
  rw [h, frameWork_eq]
  simp [beforeOutputs]

/-- The mixer's own fields after a lane frame start (R88, R102). -/
theorem frameBegun_mixerFields : (frameBegun line strobe s).mixer.curve = s.mixer.curve ∧
    (frameBegun line strobe s).mixer.frameOpen = true ∧
    (frameBegun line strobe s).mixer.periodFrames =
      if s.mixer.Ends then 0 else if s.mixer.frameOpen then s.mixer.periodFrames + 1 else s.mixer.periodFrames := by
  obtain ⟨mixer, -⟩ := frameBegun_outputs line strobe s
  obtain ⟨curve, opened, frames⟩ := accountMarks_fields (beforeMixer line strobe s)
  have found : (frameBegun line strobe s).mixer.curve = (accountMarks (beforeMixer line strobe s)).mixer.advancePeriod.curve ∧
      (frameBegun line strobe s).mixer.frameOpen = (accountMarks (beforeMixer line strobe s)).mixer.advancePeriod.frameOpen ∧
      (frameBegun line strobe s).mixer.periodFrames =
        (accountMarks (beforeMixer line strobe s)).mixer.advancePeriod.periodFrames := by
    rw [mixer]
    simp [mixerOutputs, beforeOutputs, mixerGains, mixerAccount]
  obtain ⟨foundCurve, foundOpen, foundFrames⟩ := found
  refine ⟨?_, ?_, ?_⟩
  · rw [foundCurve, advancePeriod_curve, curve, beforeMixer_mixer]
  · rw [foundOpen, advancePeriod_frameOpen]
  · simp only [foundFrames, advancePeriod_frames, Mixer.Ends, opened, frames, beforeMixer_mixer]

/-- A berth's record in the mixer after a lane frame start: the account of the frame just ended, then the gains of the
frame, then its outputs (R87). -/
theorem frameBegun_mixerBerth (b : Berth) : (frameBegun line strobe s).mixer.berths[b] =
    { s.mixer.accounted b with gains := berthGains (frameBegun line strobe s) b }.mixed
      (mixBerth (frameBegun line strobe s) b) := by
  obtain ⟨mixer, settings, routes, programmes, voice, clips, emergency, clock, wake, berths, test⟩ :=
    frameBegun_outputs line strobe s
  obtain ⟨curve, -⟩ := frameBegun_mixerFields line strobe s
  have formed : (beforeOutputs line strobe s).mixer.berths[b] =
      { s.mixer.accounted b with gains := berthGains (frameBegun line strobe s) b } := by
    have kept : (beforeOutputs line strobe s).mixer =
        (mixerGains (snapshotAt (snapshotDue s) 3 (mixerAccount (beforeMixer line strobe s)))).mixer := by
      simp [beforeOutputs]
    have taken : (snapshotAt (snapshotDue s) 3 (mixerAccount (beforeMixer line strobe s))).mixer.berths[b] =
        s.mixer.accounted b := by
      rw [← beforeMixer_mixer line strobe s, ← mixerAccount_berth]
      simp only [snapshotAt_keeps]
    have same : berthGains (snapshotAt (snapshotDue s) 3 (mixerAccount (beforeMixer line strobe s))) b =
        berthGains (frameBegun line strobe s) b := by
      refine berthGains_congr b ?_ ?_ ?_ ?_ ?_ ?_ ?_ ?_
      · rw [settings]; simp [beforeOutputs]
      · rw [curve]; simp [mixerAccount, advancePeriod_curve, accountMarks_fields, beforeMixer_mixer]
      · rw [emergency]; simp [beforeOutputs]
      · rw [test, beforeOutputs, handOutWords_frameSet]; simp
      · rw [clock]; simp [beforeOutputs]
      · rw [berths]; simp [beforeOutputs]
      · rw [routes]; simp [beforeOutputs]
      · rw [voice]; simp [beforeOutputs]
    rw [kept, mixerGains_berth, taken, same]
  have outputs : (frameBegun line strobe s).mixer.berths[b] =
      ((beforeOutputs line strobe s).mixer.berths[b]).mixed (mixBerth (beforeOutputs line strobe s) b) := by
    rw [mixer, mixerOutputs_berth]
  have gains : (frameBegun line strobe s).mixer.berths[b].gains = (beforeOutputs line strobe s).mixer.berths[b].gains := by
    rw [outputs, MixerBerth.mixed]
  rw [outputs, formed, mixBerth_congr b gains settings programmes routes clips voice wake (by rw [test])]

end

/-! ## The gains of a berth -/

theorem effectiveStep_val (knob cap : Fin 16) : (effectiveStep knob cap).val = min knob.val cap.val := by
  unfold effectiveStep
  split <;> rename_i h <;> rw [Fin.le_def] at h <;> omega

theorem speakerOpen_iff (headphones night permitted : Bool) :
    speakerOpen headphones night permitted = true ↔ headphones = false ∧ night = false ∧ permitted = true := by
  simp [speakerOpen, and_assoc]

/-- A table read as a list. -/
theorem toList_getD {n : Nat} (v : Vector Nat n) (i : Fin n) : v.toList.getD i.val 0 = v[i] := by
  simp [List.getD_eq_getElem?_getD]

theorem curveItems_clamped {values : List (BitVec 16)} (length : values.length = 16) :
    curveItems (tabulate fun i : Fin 16 => min (values.getD i.val 0).toNat 32767) =
      (values.map fun v => u16 (min v.toNat 32767)).flatten := by
  refine congrArg List.flatten (List.ext_getElem (by simp [length]) fun i hi hj => ?_)
  have bound : i < values.length := by simpa using hj
  simp [tabulate, List.getD_eq_getElem?_getD, bound]

theorem exec_curveSet {serial : Byte} {values : List (BitVec 16)} {s : State} (ready : LinkReady s)
    (length : values.length = 16) : exec (.curveSet serial values) s = .next ((handleCurveSet values s).1.answered
      { kind := 0x05, serial := serial, payload := (values.map be16).flatten } (handleCurveSet values s).2) := by
  have required : requiredLength .curveSet (values.map be16).flatten = some (values.map be16).flatten.length := by
    rw [be16_flatten_length, length]
    rfl
  have fields : field16s (values.map be16).flatten 0 16 = values := by
    have read : field16s (values.map be16).flatten 0 values.length = values := field16s_flatten [] values
    simpa only [length] using read
  have passed : passOn .curveSet (values.map be16).flatten s = replied (handleCurveSet values s) := by
    simp only [passOn, fields]
  exact request_replied serial ready required passed

/-- The mixer's work raises SAT of a berth when its mark was set (R101). -/
theorem mixerAccount_sat (u : State) (b : Berth) : (mixerAccount u).counters.pair (.sat b) =
    gainPair (if u.mixer.berths[b].saturated then 1 else 0) (u.counters.pair (.sat b)) := by
  rw [mixerAccount, setMixer_counters, accountMarks]
  have others (v : State) (c : Berth) (ne : c ≠ b) :
      (accountMark c v).counters.pair (.sat b) = v.counters.pair (.sat b) := by
    unfold accountMark
    split
    · exact pair_unread_of_ne (by simpa using ne) 1 v.counters
    · rfl
  refine foldl_finRange_at b
    (P := fun v => v.mixer.berths[b] = u.mixer.berths[b] ∧ v.counters.pair (.sat b) = u.counters.pair (.sat b))
    (Q := fun v => v.counters.pair (.sat b) =
      gainPair (if u.mixer.berths[b].saturated then 1 else 0) (u.counters.pair (.sat b))) ?_ ?_ ?_ ⟨rfl, rfl⟩
  · rintro v c ne ⟨record, pair⟩
    refine ⟨?_, (others v c ne).trans pair⟩
    rw [accountMark_mixer, amend_get, if_neg ne]
    exact record
  · rintro v ⟨record, pair⟩
    unfold accountMark
    rw [record]
    split
    · rw [← pair]
      exact pair_raised _ Nat.one_ne_zero v.counters
    · exact pair
  · intro v c ne h
    exact (others v c ne).trans h

/-- Settles O31: the curve's requests, the account of the frame just ended, and the gains of each berth. -/
theorem gainsFollowCurve : Obligations.GainsFollowCurve := by
  refine ⟨fun s serial ready => ⟨fun values length => ?_, ?_⟩, fun s line => ⟨rfl, fun strobe => ?_⟩⟩
  · refine ⟨tabulate fun i => min (values.getD i.val 0).toNat 32767, tabulate_get _, ?_⟩
    rw [exec_curveSet ready length, ← curveItems_clamped length]
    rfl
  · exact request_replied serial ready rfl (x := handleCurveGet s) rfl
  · intro t ends
    obtain ⟨curve, opened, frames⟩ := frameBegun_mixerFields line strobe s
    refine ⟨curve, opened, fun shut => ?_, fun goes short => ?_, fun h => ?_, fun b => ?_⟩
    · exact frames.trans ((if_neg fun h => by simpa [shut] using h.1).trans (if_neg (by simp [shut])))
    · exact frames.trans ((if_neg fun h => by have := h.2; omega).trans (if_pos goes))
    · exact frames.trans (if_pos h)
    · intro x y
      have record : y = { s.mixer.accounted b with gains := berthGains t b }.mixed (mixBerth t b) :=
        frameBegun_mixerBerth line strobe s b
      have gains : y.gains = berthGains t b := by rw [record, MixerBerth.mixed]
      have level : y.peakLevel = if ends then peakLevelOf x.runningPeak else x.peakLevel := by
        rw [record, MixerBerth.mixed]
        rfl
      have marks : CountsAtFrame s t (.sat b) (if x.saturated then 1 else 0) :=
        countsAtFrame_mixer (by simp) (by simp) (by simp) (by simp) fun u mixer => by rw [mixerAccount_sat, mixer]
      refine ⟨marks, fun h => level.trans (if_neg h), fun h silent => ?_, fun h k bound low high => ?_, ?_, ?_⟩
      · rw [level, if_pos h, silent]
        decide
      · rw [level, if_pos h]
        exact peakLevelOf_bits low high bound
      · rw [record, MixerBerth.mixed]
        dsimp only
        rw [List.foldl_map]
        rfl
      · intro g step curve' capped speaker
        have stepped : (effectiveStep t.berths[b].knob.accepted t.routes[b].active.cap).val = step := effectiveStep_val _ _
        have entry : t.mixer.curve[effectiveStep t.berths[b].knob.accepted t.routes[b].active.cap] = curve' := by
          rw [← toList_getD, stepped]
        have formed : g = gainsFor t.settings t.mixer.curve t.emergency.latch (inSet t.test.frameSet b) t.clock.night
            t.berths[b].knob.accepted t.routes[b].active.cap t.berths[b].headphone.accepted t.routes[b].active.speaker
            ((coveredBy t.voice b).map Coverage.cls) := gains
        have opened := speakerOpen_iff t.berths[b].headphone.accepted t.clock.night t.routes[b].active.speaker
        refine ⟨by rw [formed]; rfl, by rw [formed]; exact stepped, fun none => ?_, fun c some => ?_⟩
        · rw [none] at formed
          rw [formed]
          refine ⟨congrArg capped entry, rfl, ite_self _, fun h => if_pos (opened.2 h), fun h => if_neg (mt opened.1 h)⟩
        · rw [some] at formed
          have covered : g.ga = announcementGain t.settings t.clock.night (Option.some c.cls) := by rw [formed]; rfl
          refine ⟨?_, ?_, fun h => ⟨?_, ?_⟩, fun h => ⟨?_, ?_⟩⟩
          · rw [formed]
            exact congrArg (fun x => (capped x * t.settings.duckFactor + 16384) / 32768) entry
          · rw [covered]
            cases c.cls <;> rfl
          · rw [formed]
            exact if_pos (opened.2 h)
          · rw [formed]
            exact if_pos (.inr (opened.2 h))
          · rw [formed]
            exact if_neg (mt opened.1 h)
          · rw [formed]
            exact if_congr ⟨fun e => e.elim (fun cls => Option.some.inj cls) fun o => absurd (opened.1 o) h,
              fun cls => .inl (congrArg Option.some cls)⟩ rfl rfl

/-! ## The mix of one sample period -/

/-- A value is clamped when it lies outside the samples (R96). -/
theorem toInt_clampSample (x : Int) : (clampSample x).toInt = max (-32768) (min 32767 x) :=
  toInt_toSample (by omega) (by omega)

theorem isClamped_iff (x : Int) : isClamped x = true ↔ max (-32768) (min 32767 x) ≠ x := by
  simp only [isClamped, Bool.or_eq_true, decide_eq_true_eq]
  omega

theorem toInt_emergencyOut (m : Sample) : (emergencyOut m).toInt = (m.toInt * 32767 + 16384) / 32768 := by
  obtain ⟨low, high⟩ := sample_bounds m
  unfold emergencyOut roundQ15
  rw [toInt_toSample (by omega) (by omega)]

section
variable {g : Gains} {wake : Nat} {p : Sample × Sample} {a : Sample} {c : Int} {m w : Sample}

theorem mixSample_normal (h : g.path = .normal) : mixSample g wake p a c m w =
    { left := clampSample (normalOut g wake p a c).1, right := clampSample (normalOut g wake p a c).2.1,
      speaker := clampSample (normalOut g wake p a c).2.2,
      clamped := isClamped (normalOut g wake p a c).1 || isClamped (normalOut g wake p a c).2.1 ||
        isClamped (normalOut g wake p a c).2.2 } := by
  simp only [mixSample, h]

theorem mixSample_test (h : g.path = .test) :
    mixSample g wake p a c m w = { left := w, right := 0, speaker := 0, clamped := false } := by
  simp only [mixSample, h]

theorem mixSample_emergency (h : g.path = .emergency) : mixSample g wake p a c m w =
    { left := emergencyOut m, right := emergencyOut m, speaker := emergencyOut m, clamped := false } := by
  simp only [mixSample, h]

end

/-- Sample period k of a berth. -/
def mixedAt (s : State) (b : Berth) (k : Nat) : Mixed :=
  mixSample s.mixer.berths[b].gains s.settings.wakeGain (programmePair s b k)
    ((annSamples s.clips s.voice s.routes[b].active.language b).getD k 0) (chimeSample s.wake.entries b k)
    (s.voice.heldA.getD k 0) ((wordsFor s.test.words b).getD k 0)

theorem mixBerth_eq (s : State) (b : Berth) : mixBerth s b = (List.range 48).map (mixedAt s b) := rfl

/-- The outputs and the mark of a berth after a lane frame start are those of its 48 sample periods (R101, R103). -/
theorem frameBegun_output (line : Line) (strobe : Bool) (s : State) (b : Berth) :
    let t := frameBegun line strobe s
    t.mixer.berths[b].output.headphones = (List.range 48).map (fun k => ((mixedAt t b k).left, (mixedAt t b k).right)) ∧
    t.mixer.berths[b].output.speaker = (List.range 48).map (fun k => (mixedAt t b k).speaker) ∧
    (t.mixer.berths[b].saturated = true ↔ ∃ k < 48, (mixedAt t b k).clamped = true) := by
  intro t
  have record : t.mixer.berths[b] = { s.mixer.accounted b with gains := berthGains t b }.mixed (mixBerth t b) :=
    frameBegun_mixerBerth line strobe s b
  have marked : t.mixer.berths[b].saturated = (mixBerth t b).any Mixed.clamped := by
    rw [record, MixerBerth.mixed, Mixer.accounted]
    exact Bool.false_or _
  refine ⟨?_, ?_, ?_⟩
  · rw [record, MixerBerth.mixed, mixBerth_eq]
    exact List.map_map
  · rw [record, MixerBerth.mixed, mixBerth_eq]
    exact List.map_map
  · rw [marked, mixBerth_eq, List.any_map, List.any_eq_true]
    simp

theorem map_range_getElem? {α : Type} (f : Nat → α) {n k : Nat} (h : k < n) : ((List.range n).map f)[k]? = some (f k) := by
  simp [h]

/-! ## The announcement samples -/

/-- The first reader of a variant. -/
theorem firstReader {rs : List Reader} {n : Fin 4} {rd : Reader} (h : ∃ ahead behind, rs = ahead ++ rd :: behind ∧
    rd.variant = n ∧ ∀ x ∈ ahead, x.variant ≠ n) : rs.find? (fun r => r.variant == n) = some rd := by
  rw [List.find?_eq_some_iff_append]
  obtain ⟨ahead, behind, split, own, others⟩ := h
  exact ⟨by simpa using own, ahead, behind, split, fun x mem => by simpa using others x mem⟩

theorem noReader {rs : List Reader} {n : Fin 4} (h : ∀ x ∈ rs, x.variant ≠ n) :
    rs.find? (fun r => r.variant == n) = none := by
  rw [List.find?_eq_none]
  exact fun x mem => by simpa using h x mem

theorem readerFor_own {rs : List Reader} {language : Fin 4} {rd : Reader}
    (h : rs.find? (fun r => r.variant == language) = some rd) : readerFor rs language = some rd := by
  simp only [readerFor, h]

theorem readerFor_other {rs : List Reader} {language : Fin 4}
    (h : rs.find? (fun r => r.variant == language) = none) :
    readerFor rs language = rs.find? (fun r => r.variant == 0) := by
  simp only [readerFor, h]

section
variable {c : Clips} {v : Voice} {language : Fin 4} {b : Berth} {r : Announcement} {x : Coverage} {clip : ClipNo}

theorem annSamples_silent (h : coveredBy v b = none ∨ v.active = none) : annSamples c v language b = silence := by
  unfold annSamples
  split
  · rename_i covered active
    rcases h with h | h
    · rw [h] at covered
      cases covered
    · rw [h] at active
      cases active
  · rfl

variable (covered : coveredBy v b = some x) (active : v.active = some r)
include covered active

theorem annSamples_live {m : Mic} (origin : r.origin = .mic m) : annSamples c v language b = v.heldMic m := by
  simp only [annSamples, covered, active, origin]

theorem annSamples_gap (origin : r.origin = .clip clip) (phase : r.phase = .gap) :
    annSamples c v language b = silence := by
  simp only [annSamples, covered, active, origin, phase]

theorem annSamples_reader {rd : Reader} (origin : r.origin = .clip clip) (phase : r.phase = .playing)
    (reader : readerFor v.readers language = some rd) : annSamples c v language b = rd.frame c := by
  simp only [annSamples, covered, active, origin, phase, reader]

theorem annSamples_no_reader (origin : r.origin = .clip clip) (phase : r.phase = .playing)
    (reader : readerFor v.readers language = none) : annSamples c v language b = silence := by
  simp only [annSamples, covered, active, origin, phase, reader]

end

/-- Settles O32: the three paths of one sample period, the outputs of a frame, and the samples of an announcement. -/
theorem mixIsRoundedAndClamped : Obligations.MixIsRoundedAndClamped := by
  refine ⟨fun g wake p a c m w => ⟨fun path => ?_, mixSample_test, fun path => ?_⟩, fun s line => ⟨rfl, fun strobe b => ?_⟩,
    fun c v language b => ⟨annSamples_silent, fun r covered active => ?_⟩⟩
  · intro out left right speaker clamped
    rw [mixSample_normal path]
    refine ⟨toInt_clampSample _, toInt_clampSample _, toInt_clampSample _, ?_⟩
    simp only [Bool.or_eq_true, isClamped_iff, or_assoc]
    rfl
  · rw [mixSample_emergency path]
    exact ⟨toInt_emergencyOut m, rfl, rfl, rfl⟩
  · intro t x y
    obtain ⟨headphones, speaker, marked⟩ := frameBegun_output line strobe s b
    refine ⟨?_, ?_, fun k hk => ⟨?_, ?_⟩, marked⟩
    · rw [headphones, List.length_map, List.length_range]
    · rw [speaker, List.length_map, List.length_range]
    · rw [headphones]
      exact map_range_getElem? _ hk
    · rw [speaker]
      exact map_range_getElem? _ hk
  · obtain ⟨x, covered⟩ := Option.ne_none_iff_exists'.1 covered
    refine ⟨annSamples_live covered active, annSamples_live covered active, fun clip => annSamples_gap covered active,
      fun clip origin phase => ⟨fun rd own => ?_, fun none => ⟨fun rd own => ?_, fun zero => ?_⟩⟩⟩
    · exact annSamples_reader covered active origin phase (readerFor_own (firstReader own))
    · exact annSamples_reader covered active origin phase ((readerFor_other (noReader none)).trans (firstReader own))
    · exact annSamples_no_reader covered active origin phase ((readerFor_other (noReader none)).trans (noReader zero))

/-! ## The held microphone samples -/

/-- The microphone samples that the frame plays (R51). -/
def held (s : State) : List Sample × List Sample := (s.voice.heldA, s.voice.heldB)

section
variable (s : State)

theorem held_startRepeat (r : Announcement) : held (startRepeat r s) = held s := by
  unfold startRepeat
  split <;> rfl

theorem held_rearm : held (rearm s) = held s := by
  unfold rearm
  split <;> rfl

theorem held_popped (rest : List Announcement) : held (popped rest s) = held s := by
  rw [popped, held_rearm]
  rfl

theorem held_preemptionCheck : held (preemptionCheck s) = held s := by
  unfold preemptionCheck
  split
  · rfl
  · dsimp only
    split
    · rfl
    · split <;> rfl

theorem held_reselectFor (n : Nat) : held (reselectFor n s) = held s := by
  induction n generalizing s with
  | zero => rfl
  | succ n ih =>
    unfold reselectFor
    split
    · rfl
    · rfl
    · split
      · rw [ih]
        exact held_popped s _
      · exact held_popped s _

theorem held_reselectIfFreed (had : Bool) : held (reselectIfFreed had s) = held s := by
  unfold reselectIfFreed reselect
  split
  · exact held_reselectFor s _
  · rfl

theorem held_dueEnds : held (dueEnds s) = held s := by
  unfold dueEnds
  repeat' split
  all_goals rfl

theorem held_repeatOver (r : Announcement) : held (repeatOver r s) = held s := by
  unfold repeatOver
  split
  · rfl
  · split
    · rfl
    · exact held_startRepeat s _

theorem held_accountFrame : held (accountFrame s) = held s := by
  unfold accountFrame playedClip playedGap playedLive
  dsimp only
  split
  · rfl
  · split
    · split
      · exact held_repeatOver s _
      · rfl
    · split
      · exact held_startRepeat s _
      · rfl
    · repeat' split
      all_goals rfl

theorem held_startActive : held (startActive s) = held s := by
  unfold startActive
  split
  · rfl
  · split
    · dsimp only
      split
      · exact held_startRepeat s _
      · rfl
    · rfl

theorem held_thaw : held (thaw s) = held s := by
  unfold thaw
  split
  · rfl
  · split
    · rfl
    · split
      · exact held_startRepeat s _
      · rfl

theorem held_latchStep (latch : Bool) : held (latchStep latch s) = held s := by
  unfold latchStep
  split
  · rfl
  · split
    · rw [held_startActive, held_preemptionCheck, held_thaw]
    · exact held_startActive s

/-- The samples collected in a frame are held for the next (R51). -/
theorem held_voiceFrame (latch : Bool) (set : BerthSet) :
    held (voiceFrame latch set s) = (padFrame s.voice.collectingA, padFrame s.voice.collectingB) := by
  have covered (u : State) : held (coverStep latch set u) = held u := rfl
  unfold voiceFrame
  dsimp only
  rw [covered, held_latchStep, held_reselectIfFreed, held_accountFrame, held_dueEnds]
  rfl

end

/-- Settles O33: with the latch set every berth is on the emergency path, which carries the held MIC_A sample. -/
theorem emergencyReachesEveryBerth : Obligations.EmergencyReachesEveryBerth := by
  refine fun s line => ⟨rfl, fun strobe => ?_⟩
  intro t latch b
  obtain ⟨headphones, speaker, marked⟩ := frameBegun_output line strobe s b
  have record : t.mixer.berths[b] = { s.mixer.accounted b with gains := berthGains t b }.mixed (mixBerth t b) :=
    frameBegun_mixerBerth line strobe s b
  have path : t.mixer.berths[b].gains.path = .emergency := by
    have formed : t.mixer.berths[b].gains.path = outputPath t.emergency.latch (inSet t.test.frameSet b) := by
      rw [record, MixerBerth.mixed]
      rfl
    rw [formed, latch]
    rfl
  have sample (k : Nat) : mixedAt t b k =
      { left := emergencyOut (t.voice.heldA.getD k 0), right := emergencyOut (t.voice.heldA.getD k 0),
        speaker := emergencyOut (t.voice.heldA.getD k 0), clamped := false } := mixSample_emergency path
  have mic : t.voice.heldA = padFrame s.voice.collectingA := by
    have before : (beforeVoice line strobe s).voice = s.voice := (beforeVoice_reads line strobe s).2.2.2.2.1
    have same : held t = (padFrame s.voice.collectingA, padFrame s.voice.collectingB) := by
      rw [← before, ← held_voiceFrame (beforeVoice line strobe s), held, held]
      exact congrArg (fun v : Voice => (v.heldA, v.heldB)) (frameBegun_voice line strobe s)
    exact (Prod.mk.inj same).1
  refine ⟨path, ?_, ?_, ?_, fun k hk => ⟨emergencyOut (t.voice.heldA.getD k 0), ?_, ?_, ?_⟩⟩
  · rw [Bool.eq_false_iff, Ne, marked]
    rintro ⟨k, -, clamped⟩
    rw [sample k] at clamped
    exact Bool.false_ne_true clamped
  · rw [headphones, List.length_map, List.length_range]
  · rw [speaker, List.length_map, List.length_range]
  · have collected : (padFrame s.voice.collectingA).getD k 0 = s.voice.collectingA.getD k 0 := by
      simp [padFrame, List.getD_eq_getElem?_getD, hk]
    rw [toInt_emergencyOut, mic, collected]
  · rw [headphones, map_range_getElem? _ hk, sample k]
  · rw [speaker, map_range_getElem? _ hk, sample k]

end Sys2Proof.Machine
end

section
/-! The frame timer (O42) and the emergency line unit (O34). -/

namespace Sys2Proof.Machine

/-! ## The frame timer -/

theorem nextReference_eq (x : Timer) (age : Nat) :
    x.nextReference age = if 4 ≤ age then .localOsc else x.requested.getD x.reference := by
  unfold Timer.nextReference
  by_cases present : age < 4
  · rw [if_neg (Nat.not_le.2 present)]
    cases x.requested with
    | none => exact if_pos present
    | some r =>
      cases r
      · rfl
      · exact if_pos present
  · rw [if_pos (Nat.not_lt.1 present)]
    cases x.requested with
    | none => exact if_neg present
    | some r =>
      cases r
      · rfl
      · exact if_neg present

theorem nextAge_eq (x : Timer) (strobe : Bool) :
    x.nextAge strobe = if x.strobeSeen = true ∨ strobe = true then 0 else min (x.strobeAge + 1) 4 :=
  if_congr (Bool.or_eq_true _ _ ▸ Iff.rfl) rfl rfl

theorem loses_iff (x : Timer) (age : Nat) :
    x.loses age = true ↔ 4 ≤ age ∧ (x.reference = .port ∨ x.requested = some .port) := by
  simp [Timer.loses]

section
variable (strobe : Bool) (s : State)

theorem timerFrame_timer : (timerFrame strobe s).timer =
    { reference := s.timer.nextReference (s.timer.nextAge strobe), requested := none,
      strobeAge := s.timer.nextAge strobe, strobeSeen := false, frameNumber := s.timer.frameNumber + 1 } := by
  unfold timerFrame
  dsimp only
  split <;> rfl

theorem timerFrame_reports (lost : s.timer.loses (s.timer.nextAge strobe) = true) :
    Reports s (timerFrame strobe s) .referenceLost := by
  unfold timerFrame
  dsimp only
  rw [if_pos lost]
  exact (Queues.of_link (K := fun _ => True) rfl).reports (reports_queueNotice _ _)

theorem timerFrame_quiet (kept : s.timer.loses (s.timer.nextAge strobe) = false) : (timerFrame strobe s).link = s.link := by
  unfold timerFrame
  dsimp only
  rw [if_neg (by rw [kept]; decide)]
  rfl

/-- What the blocks after the timer queue. -/
theorem afterTimer_queues (line : Line) : Queues (fun n => n.OfProgrammes ∨ n.OfEmergency ∨ n.OfLanes ∨ n.OfClock ∨ n.OfVoice)
    (timerFrame strobe s) (beforeMixer line strobe s) :=
  (((programmeFrame_queues _).after (by simp)).mono fun _ h => .inl h).trans
    ((afterProgrammes_queues line strobe s).mono fun _ h => .inr h)

end

section
variable {serial code : Byte} {s : State}

theorem exec_referenceSet_of_handler {x : State × Reply} (ready : LinkReady s) (h : handleReferenceSet code s = x) :
    exec (.referenceSet serial code) s =
      .next (x.1.answered { kind := 0x1A, serial := serial, payload := [code] } x.2) :=
  request_replied serial ready rfl (congrArg replied h)

theorem referenceOf_none (h : 1 < code.toNat) : referenceOf code = none := by
  unfold referenceOf
  rw [if_neg (by rintro rfl; simp at h), if_neg (by rintro rfl; simp at h)]

end

/-- Settles O42: the timer's record, its notice, and its requests and events. -/
theorem frameTimerRuns : Obligations.FrameTimerRuns := by
  refine ⟨fun s line => ⟨rfl, fun port => if_pos port, fun strobe => ?_⟩, fun s line quiet => ⟨fun onLocal => ?_, fun port => ?_⟩,
    fun s serial code ready => ?_⟩
  · intro t age lost
    have aged : s.timer.nextAge strobe = age := nextAge_eq _ _
    have loses : s.timer.loses (s.timer.nextAge strobe) = true ↔ lost := by rw [aged, loses_iff]
    refine ⟨?_, fun h => ?_, fun h => ?_⟩
    · show (frameBegun line strobe s).timer = _
      rw [(frameBegun_inputs line strobe s).1, timerFrame_timer, nextReference_eq, aged]
    · exact reports_frameBegun ((timerFrame_reports strobe s (loses.2 h)).then_ (afterTimer_queues strobe s line))
    · have quiet := timerFrame_quiet strobe s (Bool.eq_false_iff.2 (mt loses.1 h))
      refine keepsCount_frameBegun (((afterTimer_queues strobe s line).after quiet).keepsCount ?_)
      simp [Notice.OfProgrammes, Notice.OfProgramme, Notice.OfEmergency, Notice.OfLanes, Notice.OfBerth, Notice.OfLane,
        Notice.OfClock, Notice.OfVoice]
  · have seen : execPortFrameStrobe line s = goOn (strobeSeen s) := if_neg (by rw [onLocal]; decide)
    have kept : referenceLostEvent s = s := if_neg (by rw [onLocal]; decide)
    refine ⟨seen.trans (goOn_sent quiet rfl), ?_⟩
    show goOn (referenceLostEvent s) = _
    rw [kept]
    exact goOn_sent quiet rfl
  · have lost : referenceLostEvent s = _ := if_pos port
    show goOn (referenceLostEvent s) = _
    rw [goOn_sent quiet (referenceLostEvent_queues s).buffer, lost]
  · intro f
    refine ⟨fun bad => ?_, ?_, ?_, ?_⟩
    · have refused : handleReferenceSet code s = (s, refuse .badField) := by
        simp only [handleReferenceSet, referenceOf_none bad]
      exact exec_referenceSet_of_handler ready refused
    · rintro rfl
      exact exec_referenceSet_of_handler ready rfl
    · rintro rfl absent
      refine exec_referenceSet_of_handler ready (x := (s, refuse .noReference)) (if_pos ⟨rfl, ?_⟩)
      exact decide_eq_false (by omega)
    · rintro rfl present
      refine exec_referenceSet_of_handler ready
        (x := (setTimer (fun t => { t with requested := some .port }) s, okReply [])) (if_neg fun h => ?_)
      exact absurd h.2 (by simp [Timer.strobePresent, present])

/-! ## The emergency line unit -/

/-- The accepted line after a sample (R106). -/
def Emergency.heard (e : Emergency) (line : Line) (filter : Nat) : Line :=
  if (e.sample line).accepts filter then line else e.accepted

theorem sample_eq (e : Emergency) (line : Line) : e.sample line =
    { e with candidate := line, runCount := if line = e.candidate then min (e.runCount + 1) 100 else 1 } := by
  unfold Emergency.sample
  by_cases same : line = e.candidate
  · rw [if_pos same, if_pos same, same]
  · rw [if_neg same, if_neg same]

theorem sample_accepts (e : Emergency) (line : Line) (filter : Nat) : (e.sample line).accepts filter = true ↔
    line ≠ e.accepted ∧ filter ≤ if line = e.candidate then min (e.runCount + 1) 100 else 1 := by
  rw [sample_eq]
  simp [Emergency.accepts]

section
variable {s : State} {line : Line}

theorem acceptLine_asserted (h : s.emergency.candidate = .asserted) : acceptLine s =
    if s.emergency.latch = false ∨ s.emergency.clearPending then
      queueNotice (.emergency .latched .asserted) { s with emergency :=
        { s.emergency with accepted := .asserted, latch := true, clearPending := false } }
    else { s with emergency := { s.emergency with accepted := .asserted } } := by
  simp only [acceptLine, h]

theorem acceptLine_released (h : s.emergency.candidate = .released) :
    acceptLine s = { s with emergency := { s.emergency with accepted := .released } } := by
  simp only [acceptLine, h]

theorem carryOutClear_pending (h : s.emergency.clearPending = true) : carryOutClear s =
    queueNotice (.emergency .cleared s.emergency.accepted)
      { s with emergency := { s.emergency with latch := false, clearPending := false } } := if_pos h

theorem carryOutClear_settled (h : s.emergency.clearPending = false) : carryOutClear s = s :=
  if_neg (by rw [h]; decide)

/-- What the filter makes of the sample, before a pending clear is carried out. -/
def heardLine (line : Line) (s : State) : State :=
  let s := { s with emergency := s.emergency.sample line }
  if s.emergency.accepts s.settings.alarmFilter then acceptLine s else s

theorem emergencyFrame_eq (line : Line) (s : State) : emergencyFrame line s = carryOutClear (heardLine line s) := rfl

theorem heardLine_alarm (accepts : (s.emergency.sample line).accepts s.settings.alarmFilter = true)
    (asserted : line = .asserted) : heardLine line s =
      if s.emergency.latch = false ∨ s.emergency.clearPending then
        queueNotice (.emergency .latched .asserted) { s with emergency :=
          { s.emergency.sample line with accepted := .asserted, latch := true, clearPending := false } }
      else { s with emergency := { s.emergency.sample line with accepted := .asserted } } := by
  have candidate : (s.emergency.sample line).candidate = .asserted := by rw [sample_eq, asserted]
  have latch : (s.emergency.sample line).latch = s.emergency.latch := by rw [sample_eq]
  have pending : (s.emergency.sample line).clearPending = s.emergency.clearPending := by rw [sample_eq]
  have heard : heardLine line s = acceptLine { s with emergency := s.emergency.sample line } := if_pos accepts
  rw [heard, acceptLine_asserted candidate]
  simp only [latch, pending]

/-- Without an alarm the sample changes the accepted line at most. -/
theorem heardLine_no_alarm
    (noAlarm : ¬ ((s.emergency.sample line).accepts s.settings.alarmFilter = true ∧ line = .asserted)) :
    heardLine line s = { s with emergency :=
      { s.emergency.sample line with accepted := s.emergency.heard line s.settings.alarmFilter } } := by
  unfold Emergency.heard
  by_cases accepts : (s.emergency.sample line).accepts s.settings.alarmFilter = true
  · have released : line = .released := by
      cases line
      · rfl
      · exact absurd ⟨accepts, rfl⟩ noAlarm
    have candidate : (s.emergency.sample line).candidate = .released := by rw [sample_eq, released]
    have heard : heardLine line s = acceptLine { s with emergency := s.emergency.sample line } := if_pos accepts
    rw [heard, acceptLine_released candidate, if_pos accepts, released]
  · have heard : heardLine line s = { s with emergency := s.emergency.sample line } := if_neg accepts
    have accepted : (s.emergency.sample line).accepted = s.emergency.accepted := by rw [sample_eq]
    rw [heard, if_neg accepts, ← accepted]

/-- The alarm is accepted, and sets the latch or cancels a pending clear (step 2 of R108). -/
theorem emergencyFrame_latches (accepts : (s.emergency.sample line).accepts s.settings.alarmFilter = true)
    (asserted : line = .asserted) (latches : s.emergency.latch = false ∨ s.emergency.clearPending = true) :
    emergencyFrame line s = queueNotice (.emergency .latched .asserted) { s with emergency :=
      { s.emergency.sample line with accepted := .asserted, latch := true, clearPending := false } } := by
  rw [emergencyFrame_eq, heardLine_alarm accepts asserted, if_pos latches]
  exact carryOutClear_settled rfl

theorem emergencyFrame_alarmed (accepts : (s.emergency.sample line).accepts s.settings.alarmFilter = true)
    (asserted : line = .asserted) (latch : s.emergency.latch = true) (settled : s.emergency.clearPending = false) :
    emergencyFrame line s = { s with emergency := { s.emergency.sample line with accepted := .asserted } } := by
  rw [emergencyFrame_eq, heardLine_alarm accepts asserted, if_neg (by simp [latch, settled])]
  exact carryOutClear_settled (by rw [sample_eq]; exact settled)

theorem emergencyFrame_clears
    (noAlarm : ¬ ((s.emergency.sample line).accepts s.settings.alarmFilter = true ∧ line = .asserted))
    (pending : s.emergency.clearPending = true) :
    emergencyFrame line s = queueNotice (.emergency .cleared (s.emergency.heard line s.settings.alarmFilter))
      { s with emergency :=
        { s.emergency.sample line with
          accepted := s.emergency.heard line s.settings.alarmFilter, latch := false, clearPending := false } } := by
  rw [emergencyFrame_eq, heardLine_no_alarm noAlarm]
  exact carryOutClear_pending (by rw [sample_eq]; exact pending)

theorem emergencyFrame_quiet
    (noAlarm : ¬ ((s.emergency.sample line).accepts s.settings.alarmFilter = true ∧ line = .asserted))
    (settled : s.emergency.clearPending = false) :
    emergencyFrame line s = { s with emergency :=
      { s.emergency.sample line with accepted := s.emergency.heard line s.settings.alarmFilter } } := by
  rw [emergencyFrame_eq, heardLine_no_alarm noAlarm]
  exact carryOutClear_settled (by rw [sample_eq]; exact settled)

end

/-! ## The unit's record and its notices -/

/-- The latch is set, or a pending clear is cancelled, at this sample (step 2 of R108). -/
abbrev Emergency.Latches (e : Emergency) (line : Line) (filter : Nat) : Prop :=
  ((e.sample line).accepts filter = true ∧ line = .asserted) ∧ (e.latch = false ∨ e.clearPending = true)

/-- A pending clear is carried out at this sample (step 3 of R108). -/
abbrev Emergency.Clears (e : Emergency) (line : Line) (filter : Nat) : Prop :=
  e.clearPending = true ∧ ¬ ((e.sample line).accepts filter = true ∧ line = .asserted)

section
variable (line : Line) (s : State)

theorem emergencyFrame_emergency : (emergencyFrame line s).emergency = { s.emergency.sample line with
    accepted := s.emergency.heard line s.settings.alarmFilter
    clearPending := false
    latch := if (s.emergency.sample line).accepts s.settings.alarmFilter = true ∧ line = .asserted then true
      else if s.emergency.clearPending then false else s.emergency.latch } := by
  have latch : (s.emergency.sample line).latch = s.emergency.latch := by rw [sample_eq]
  have pending : (s.emergency.sample line).clearPending = s.emergency.clearPending := by rw [sample_eq]
  by_cases alarm : (s.emergency.sample line).accepts s.settings.alarmFilter = true ∧ line = .asserted
  · obtain ⟨accepts, asserted⟩ := alarm
    have heard : s.emergency.heard line s.settings.alarmFilter = .asserted := (if_pos accepts).trans asserted
    rw [if_pos ⟨accepts, asserted⟩, heard]
    by_cases latches : s.emergency.latch = false ∨ s.emergency.clearPending = true
    · rw [emergencyFrame_latches accepts asserted latches, queueNotice_emergency]
    · have set : s.emergency.latch = true := by simpa using fun h => latches (.inl h)
      have settled : s.emergency.clearPending = false := by simpa using fun h => latches (.inr h)
      rw [emergencyFrame_alarmed accepts asserted set settled, ← set, ← latch, ← settled, ← pending]
  · rw [if_neg alarm]
    by_cases clears : s.emergency.clearPending = true
    · rw [emergencyFrame_clears alarm clears, queueNotice_emergency, if_pos clears]
    · have settled : s.emergency.clearPending = false := by simpa using clears
      rw [emergencyFrame_quiet alarm settled, if_neg clears, ← latch, ← settled, ← pending]

variable {line s}

theorem emergencyFrame_reports_latched (h : s.emergency.Latches line s.settings.alarmFilter) :
    Reports s (emergencyFrame line s) (.emergency .latched .asserted) := by
  rw [emergencyFrame_latches h.1.1 h.1.2 h.2]
  exact (Queues.of_link (K := fun _ => True) rfl).reports (reports_queueNotice _ _)

theorem emergencyFrame_reports_cleared (h : s.emergency.Clears line s.settings.alarmFilter) :
    Reports s (emergencyFrame line s) (.emergency .cleared (s.emergency.heard line s.settings.alarmFilter)) := by
  rw [emergencyFrame_clears h.2 h.1]
  exact (Queues.of_link (K := fun _ => True) rfl).reports (reports_queueNotice _ _)

/-- The unit queues no other notice than those of the latch set and of the clear carried out (R110). -/
theorem emergencyFrame_keepsCount {event : EmergencyEvent} {at' : Line}
    (latched : ¬ (s.emergency.Latches line s.settings.alarmFilter ∧ event = .latched ∧ at' = .asserted))
    (cleared : ¬ (s.emergency.Clears line s.settings.alarmFilter ∧ event = .cleared ∧
      at' = s.emergency.heard line s.settings.alarmFilter)) :
    KeepsCount s (emergencyFrame line s) (.emergency event at') := by
  by_cases alarm : (s.emergency.sample line).accepts s.settings.alarmFilter = true ∧ line = .asserted
  · obtain ⟨accepts, asserted⟩ := alarm
    by_cases latches : s.emergency.latch = false ∨ s.emergency.clearPending = true
    · rw [emergencyFrame_latches accepts asserted latches]
      refine (Queues.after (K := fun n => n = .emergency .latched .asserted) (.notice rfl) rfl).keepsCount fun same => ?_
      obtain ⟨rfl, rfl⟩ := Notice.emergency.inj same
      exact latched ⟨⟨⟨accepts, asserted⟩, latches⟩, rfl, rfl⟩
    · have set : s.emergency.latch = true := by simpa using fun h => latches (.inl h)
      have settled : s.emergency.clearPending = false := by simpa using fun h => latches (.inr h)
      rw [emergencyFrame_alarmed accepts asserted set settled]
      rfl
  · by_cases clears : s.emergency.clearPending = true
    · rw [emergencyFrame_clears alarm clears]
      refine (Queues.after (K := fun n => n = .emergency .cleared (s.emergency.heard line s.settings.alarmFilter))
        (.notice rfl) rfl).keepsCount fun same => ?_
      obtain ⟨rfl, rfl⟩ := Notice.emergency.inj same
      exact cleared ⟨⟨clears, alarm⟩, rfl, rfl⟩
    · rw [emergencyFrame_quiet alarm (by simpa using clears)]
      rfl

end

theorem exec_emergencyClear_of_handler {serial : Byte} {s : State} {x : State × Reply} (ready : LinkReady s)
    (h : handleEmergencyClear s = x) :
    exec (.emergencyClear serial) s = .next (x.1.answered { kind := 0x3A, serial := serial, payload := [] } x.2) :=
  request_replied serial ready rfl (congrArg replied h)

theorem exec_alarmAccepted {s : State} (quiet : LinkQuiet s) :
    exec .alarmAccepted s = .next (alarmAcceptedEvent s).sent :=
  goOn_sent quiet (alarmAcceptedEvent_queues s).buffer

/-- What the emergency line unit finds at a lane frame start. -/
def alarmFinds (strobe : Bool) (s : State) : State :=
  snapshotAt (snapshotDue s) 1 (programmeFrame (snapshotAt (snapshotDue s) 0 (timerFrame strobe s)))

section
variable (line : Line) (strobe : Bool) (s : State)

theorem alarmFinds_reads :
    (alarmFinds strobe s).emergency = s.emergency ∧ (alarmFinds strobe s).settings = s.settings := by simp [alarmFinds]

theorem alarmFinds_queues : Queues (fun n => n.OfTimer ∨ n.OfProgrammes) s (alarmFinds strobe s) :=
  (beforeEmergency_queues strobe s).then_ (by simp [alarmFinds])

theorem frameBegun_emergency : (frameBegun line strobe s).emergency = (emergencyFrame line (alarmFinds strobe s)).emergency :=
  (frameBegun_inputs line strobe s).2.2

variable {line strobe s} {n : Notice}

theorem reports_alarm (own : Reports (alarmFinds strobe s) (emergencyFrame line (alarmFinds strobe s)) n) :
    Reports s (frameBegun line strobe s) n :=
  reports_frameBegun (((alarmFinds_queues strobe s).reports own).then_ (afterEmergency_queues line strobe s))

theorem keepsCount_alarm (own : KeepsCount (alarmFinds strobe s) (emergencyFrame line (alarmFinds strobe s)) n)
    (kind : n.OfEmergency) : KeepsCount s (frameBegun line strobe s) n := by
  refine keepsCount_frameBegun (((alarmFinds_queues strobe s).keepsCount ?_).trans
    (own.trans ((afterEmergency_queues line strobe s).keepsCount ?_)))
  all_goals
    cases n <;> simp_all [Notice.OfTimer, Notice.OfProgrammes, Notice.OfProgramme, Notice.OfEmergency, Notice.OfLanes,
      Notice.OfBerth, Notice.OfLane, Notice.OfClock, Notice.OfVoice]

end

/-- Settles O34: the request, the unit at a lane frame start, and the event of the accepted sample. -/
theorem emergencyLineActs : Obligations.EmergencyLineActs := by
  refine ⟨fun s serial ready => ⟨fun asserted => ?_, fun released clear => ?_, fun released latch => ?_⟩,
    fun s line => ⟨rfl, fun strobe => ?_⟩, fun s quiet => ?_⟩
  · exact exec_emergencyClear_of_handler ready (x := (s, refuse .lineActive)) (if_pos asserted)
  · refine exec_emergencyClear_of_handler ready (x := (s, refuse .wrongState)) ?_
    exact (if_neg (by rw [released]; decide)).trans (if_pos clear)
  · refine exec_emergencyClear_of_handler ready
      (x := ({ s with emergency := { s.emergency with clearPending := true } }, okReply [])) ?_
    exact (if_neg (by rw [released]; decide)).trans (if_neg (by rw [latch]; decide))
  · intro t e run accepts alarm latches clears
    obtain ⟨emergency, settings⟩ := alarmFinds_reads strobe s
    have record : t.emergency = _ := (frameBegun_emergency line strobe s).trans (emergencyFrame_emergency line _)
    rw [emergency, settings] at record
    have accepted : (e.sample line).accepts s.settings.alarmFilter = true ↔ accepts := sample_accepts e line _
    have alarmed : ((e.sample line).accepts s.settings.alarmFilter = true ∧ line = .asserted) ↔ alarm :=
      and_congr_left fun _ => accepted
    have heard : t.emergency.accepted = e.heard line s.settings.alarmFilter := by rw [record]
    have latching : (alarmFinds strobe s).emergency.Latches line (alarmFinds strobe s).settings.alarmFilter ↔ latches := by
      rw [emergency, settings]
      exact and_congr_left fun _ => alarmed
    have clearing : (alarmFinds strobe s).emergency.Clears line (alarmFinds strobe s).settings.alarmFilter ↔ clears := by
      rw [emergency, settings]
      exact and_congr_right fun _ => not_congr alarmed
    have noted : (alarmFinds strobe s).emergency.heard line (alarmFinds strobe s).settings.alarmFilter =
        t.emergency.accepted := by rw [heard, emergency, settings]
    refine ⟨?_, ?_, ?_, ?_, ?_, fun h => ?_, fun h => ?_, fun event at' latched cleared => ?_⟩
    · rw [record, sample_eq]
    · rw [record, sample_eq]
    · exact heard.trans (if_congr accepted rfl rfl)
    · rw [record]
    · rw [record]
      exact if_congr alarmed rfl rfl
    · exact reports_alarm (emergencyFrame_reports_latched (latching.2 h))
    · exact noted ▸ reports_alarm (emergencyFrame_reports_cleared (clearing.2 h))
    · refine keepsCount_alarm (emergencyFrame_keepsCount ?_ ?_) trivial
      · rwa [latching]
      · rwa [clearing, noted]
  · intro e run reaches
    have sampled : e.sample e.candidate = { e with runCount := run } := by
      rw [sample_eq, if_pos rfl]
    have accepted : (e.sample e.candidate).accepts s.settings.alarmFilter = true ↔ e.candidate ≠ e.accepted ∧ reaches := by
      rw [sample_accepts, if_pos rfl]
    have acts (h : e.candidate ≠ e.accepted ∧ reaches) : alarmAcceptedEvent s = emergencyFrame e.candidate s :=
      if_pos (accepted.2 h)
    refine ⟨fun h => ?_, fun reached asserted released latches => ?_, fun reached asserted released latch settled => ?_,
      fun reached released asserted settled => ?_, fun reached released asserted pending => ?_⟩
    · have kept : alarmAcceptedEvent s = s := if_neg (mt accepted.1 fun both => h.elim both.1 fun short => short both.2)
      rw [exec_alarmAccepted quiet, kept]
    · have changes : e.candidate ≠ e.accepted ∧ reaches := ⟨by rw [asserted, released]; decide, reached⟩
      rw [exec_alarmAccepted quiet, acts changes, emergencyFrame_latches (accepted.2 changes) asserted latches, sampled]
    · have changes : e.candidate ≠ e.accepted ∧ reaches := ⟨by rw [asserted, released]; decide, reached⟩
      rw [exec_alarmAccepted quiet, acts changes, emergencyFrame_alarmed (accepted.2 changes) asserted latch settled, sampled]
    · have changes : e.candidate ≠ e.accepted ∧ reaches := ⟨by rw [asserted, released]; decide, reached⟩
      have heard : e.heard e.candidate s.settings.alarmFilter = .released := (if_pos (accepted.2 changes)).trans released
      rw [exec_alarmAccepted quiet, acts changes, emergencyFrame_quiet (by rw [released]; simp) settled, heard, sampled]
    · have changes : e.candidate ≠ e.accepted ∧ reaches := ⟨by rw [asserted, released]; decide, reached⟩
      have heard : e.heard e.candidate s.settings.alarmFilter = .released := (if_pos (accepted.2 changes)).trans released
      rw [exec_alarmAccepted quiet, acts changes, emergencyFrame_clears (by rw [released]; simp) pending, heard, sampled]

end Sys2Proof.Machine
end

section
/-! The journey clock's requests and ticks (O35, O36) and the chimes (O40). -/

namespace Sys2Proof.Machine

/-! ## Evaluation of the wake list -/

/-- The due minute of an ARMED entry has come (R135). -/
abbrev WakeEntry.DueAt (m : Nat) (e : WakeEntry) : Prop := e.state = .armed ∧ e.due ≤ m

/-- An entry once the list has been evaluated at journey minute m (R135). -/
def WakeEntry.rung (m : Nat) (e : WakeEntry) : WakeEntry :=
  if e.DueAt m then { e with state := .ringing, ringSeconds := 0, deferred := true, cycle := 0 } else e

/-- The DUE notices of an evaluation, in list order (R135). -/
def dueNotices (m : Nat) (es : List WakeEntry) : List Notice :=
  (es.filter fun e => decide (e.DueAt m)).map fun e => .wakeState e.berth e.stop .ringing .due 0

theorem rings_eq (m : Nat) (e : WakeEntry) : e.rings m = decide (e.DueAt m) := by
  rw [WakeEntry.rings, Bool.decide_and]
  rfl

theorem evaluateWake_set {s : State} (set : s.clock.isSet = true) :
    evaluateWake s = queueNotices (dueNotices s.clock.journeyMinute s.wake.entries)
      { s with wake := { s.wake with entries := s.wake.entries.map (WakeEntry.rung s.clock.journeyMinute) } } := by
  have list : (s.wake.entries.filter (WakeEntry.rings s.clock.journeyMinute)).map (fun e => wakeNotice e .ringing .due 0) =
      dueNotices s.clock.journeyMinute s.wake.entries := by
    rw [dueNotices, funext (rings_eq s.clock.journeyMinute)]
    rfl
  have entries (e : WakeEntry) : (if e.rings s.clock.journeyMinute then e.ring else e) = e.rung s.clock.journeyMinute := by
    rw [rings_eq]
    exact if_congr decide_eq_true_iff rfl rfl
  rw [evaluateWake, if_pos set]
  dsimp only
  rw [list, funext entries]
  rfl

theorem evaluateWake_unset {s : State} (unset : s.clock.isSet = false) : evaluateWake s = s :=
  if_neg (by rw [unset]; decide)

theorem minuteTick_set {s : State} (set : s.clock.isSet = true) : minuteTick s =
    queueNotices (dueNotices s.clock.journeyMinute s.wake.entries) { s with
      clock := { s.clock with night := inWindow s.settings.nightStart s.settings.nightEnd s.clock.minuteOfDay }
      wake := { s.wake with entries := s.wake.entries.map (WakeEntry.rung s.clock.journeyMinute) } } := by
  have night : evaluateNight s = { s with
      clock := { s.clock with night := inWindow s.settings.nightStart s.settings.nightEnd s.clock.minuteOfDay } } := by
    simp only [evaluateNight, setClock, set, Bool.true_and]
  rw [minuteTick, night]
  exact evaluateWake_set set

/-! ## The second tick -/

/-- An entry once its ring second has been counted (R139). -/
def WakeEntry.counted (e : WakeEntry) : WakeEntry :=
  if e.state = .ringing ∧ e.deferred = false then { e with ringSeconds := e.ringSeconds + 1 } else e

/-- A RINGING entry has reached the ring limit (R139). -/
abbrev WakeEntry.Spent (limit : Nat) (e : WakeEntry) : Prop := e.state = .ringing ∧ limit ≤ e.ringSeconds

/-- An entry once a second has been counted against the ring limit (R139). -/
def WakeEntry.limited (limit : Nat) (e : WakeEntry) : WakeEntry :=
  if e.counted.Spent limit then { e.counted with state := .missed, deferred := false } else e.counted

/-- The LIMIT notices of a second tick, in list order (R139). -/
def limitNotices (limit : Nat) (es : List WakeEntry) : List Notice :=
  ((es.map WakeEntry.counted).filter fun e => decide (e.Spent limit)).map
    fun e => .wakeState e.berth e.stop .missed .limit 0

theorem countSecond_eq (e : WakeEntry) : e.countSecond = e.counted := by
  obtain ⟨berth, stop, lead, due, state, seconds, deferred, cycle⟩ := e
  unfold WakeEntry.countSecond WakeEntry.counted
  by_cases ringing : state = .ringing
  · cases deferred <;> simp [ringing]
  · rw [if_neg ringing, if_neg fun h => ringing h.1]

theorem overLimit_eq (limit : Nat) (e : WakeEntry) : e.overLimit limit = decide (e.Spent limit) := by
  rw [WakeEntry.overLimit, Bool.decide_and]
  rfl

theorem wakeSecond_eq (s : State) : wakeSecond s =
    queueNotices (limitNotices s.settings.ringLimit s.wake.entries)
      { s with wake := { s.wake with entries := s.wake.entries.map (WakeEntry.limited s.settings.ringLimit) } } := by
  have missed (e : WakeEntry) : (if e.counted.overLimit s.settings.ringLimit then e.counted.miss else e.counted) =
      e.limited s.settings.ringLimit := by
    rw [overLimit_eq]
    exact if_congr decide_eq_true_iff rfl rfl
  have entries : ((s.wake.entries.map WakeEntry.countSecond).map
      fun e => if e.overLimit s.settings.ringLimit then e.miss else e) =
        s.wake.entries.map (WakeEntry.limited s.settings.ringLimit) := by
    rw [List.map_map]
    refine List.map_congr_left fun e _ => ?_
    rw [Function.comp_apply, countSecond_eq, missed]
  have list : ((s.wake.entries.map WakeEntry.countSecond).filter (WakeEntry.overLimit s.settings.ringLimit)).map
      (fun e => wakeNotice e .missed .limit 0) = limitNotices s.settings.ringLimit s.wake.entries := by
    rw [limitNotices, funext countSecond_eq, funext (overLimit_eq _)]
    rfl
  unfold wakeSecond
  dsimp only
  rw [entries, list]
  rfl

/-- The clock stands at day 7 23:59:59 (R116). -/
abbrev Clock.AtLimit (c : Clock) : Prop := c.day = 7 ∧ c.hour = 23 ∧ c.minute = 59 ∧ c.second = 59

/-- The clock's own part of a second tick, with the frame count back at 0 (R114 to R116). -/
def Clock.seconded (c : Clock) : Clock :=
  if c.held then { c with frameCount := 0 }
  else if c.AtLimit then { c with frameCount := 0, held := true }
  else if c.second + 1 < 60 then { c with frameCount := 0, second := c.second + 1 }
  else { c with
    frameCount := 0, second := 0
    minute := if c.minute + 1 < 60 then c.minute + 1 else 0
    hour := if c.minute + 1 < 60 then c.hour else if c.hour + 1 < 24 then c.hour + 1 else 0
    day := if c.minute + 1 < 60 ∨ c.hour + 1 < 24 then c.day else c.day + 1 }

/-- The CLOCK_LIMIT notice of a second tick (R116). -/
def holdNotices (c : Clock) : List Notice :=
  if c.held = false ∧ c.AtLimit then [.clockLimit 7 23 59 59 (7 * 1440 + 23 * 60 + 59)] else []

/-- The second tick is also a minute tick (R115). -/
abbrev Clock.Carries (c : Clock) : Prop := 60 ≤ c.second + 1 ∧ c.held = false ∧ ¬ c.AtLimit

theorem isMinuteTick_iff (c : Clock) : isMinuteTick c = true ↔ c.Carries := by
  have limit : c.atLimit = false ↔ ¬ c.AtLimit := by rw [← Bool.not_eq_true, atLimit_iff]
  simp only [isMinuteTick, Clock.carries, Bool.and_eq_true, Bool.not_eq_true', limit, decide_eq_true_eq, Clock.Carries]
  tauto

theorem advance_eq (c : Clock) : Clock.advance { c with frameCount := 0 } =
    if c.second + 1 < 60 then { c with frameCount := 0, second := c.second + 1 }
    else { c with
      frameCount := 0, second := 0
      minute := if c.minute + 1 < 60 then c.minute + 1 else 0
      hour := if c.minute + 1 < 60 then c.hour else if c.hour + 1 < 24 then c.hour + 1 else 0
      day := if c.minute + 1 < 60 ∨ c.hour + 1 < 24 then c.day else c.day + 1 } := by
  unfold Clock.advance
  refine if_congr Iff.rfl rfl ?_
  by_cases minute : c.minute + 1 < 60
  · simp only [minute, if_true, true_or]
  · by_cases hour : c.hour + 1 < 24 <;> simp only [minute, hour, if_true, if_false, or_self, false_or]

theorem clockSecond_eq (s : State) : clockSecond (setClock (fun c => { c with frameCount := 0 }) s) =
    queueNotices (holdNotices s.clock) { s with clock := s.clock.seconded } := by
  have limit : ({ s.clock with frameCount := 0 } : Clock).atLimit = true ↔ s.clock.AtLimit := atLimit_iff _
  by_cases held : s.clock.held = true
  · refine (if_pos held).trans ?_
    rw [holdNotices, if_neg (by simp [held]), Clock.seconded, if_pos held]
    rfl
  · refine (if_neg held).trans ?_
    by_cases last : s.clock.AtLimit
    · refine (if_pos (limit.2 last)).trans ?_
      rw [holdNotices, if_pos ⟨by simpa using held, last⟩, Clock.seconded, if_neg held, if_pos last]
      have notice : Notice.clockLimit s.clock.day s.clock.hour s.clock.minute s.clock.second
          (s.clock.day * 1440 + s.clock.hour * 60 + s.clock.minute) =
            .clockLimit 7 23 59 59 (7 * 1440 + 23 * 60 + 59) := by
        obtain ⟨day, hour, minute, second⟩ := last
        rw [day, hour, minute, second]
      exact congrArg (fun n => queueNotice n { s with clock := { s.clock with frameCount := 0, held := true } }) notice
    · refine (if_neg (mt limit.1 last)).trans ?_
      rw [holdNotices, if_neg fun h => last h.2, Clock.seconded, if_neg held, if_neg last, ← advance_eq]
      rfl

/-- The clock after a second tick (R115, R116, R122). -/
def Clock.ticked (t : Settings) (c : Clock) : Clock :=
  if c.Carries then { c.seconded with night := inWindow t.nightStart t.nightEnd c.seconded.minuteOfDay } else c.seconded

/-- The notices of a second tick, in order (R116, R135, R139). -/
def tickNotices (t : Settings) (c : Clock) (es : List WakeEntry) : List Notice :=
  holdNotices c ++ limitNotices t.ringLimit es ++
    if c.Carries then dueNotices c.seconded.journeyMinute (es.map (WakeEntry.limited t.ringLimit)) else []

/-- The wake list after a second tick (R135, R139). -/
def tickEntries (t : Settings) (c : Clock) (es : List WakeEntry) : List WakeEntry :=
  if c.Carries then (es.map (WakeEntry.limited t.ringLimit)).map (WakeEntry.rung c.seconded.journeyMinute)
  else es.map (WakeEntry.limited t.ringLimit)

theorem queueNotices_append (ns ms : List Notice) (s : State) :
    queueNotices (ns ++ ms) s = queueNotices ms (queueNotices ns s) := List.foldl_append

theorem seconded_isSet (c : Clock) : c.seconded.isSet = c.isSet := by
  unfold Clock.seconded
  repeat' split
  all_goals rfl

/-- The second tick of a SET clock: its notices, the clock and the wake list (R115 to R117, R139). -/
theorem secondTick_eq {s : State} (set : s.clock.isSet = true) : secondTick s =
    queueNotices (tickNotices s.settings s.clock s.wake.entries) { s with
      clock := s.clock.ticked s.settings
      wake := { s.wake with entries := tickEntries s.settings s.clock s.wake.entries } } := by
  have counted : wakeSecond (clockSecond (setClock (fun c => { c with frameCount := 0 }) s)) =
      queueNotices (holdNotices s.clock ++ limitNotices s.settings.ringLimit s.wake.entries) { s with
        clock := s.clock.seconded
        wake := { s.wake with entries := s.wake.entries.map (WakeEntry.limited s.settings.ringLimit) } } := by
    rw [clockSecond_eq, wakeSecond_eq, queueNotices_append]
    simp only [queueNotices_eq]
  unfold secondTick
  dsimp only
  rw [counted]
  by_cases carries : s.clock.Carries
  · rw [if_pos ((isMinuteTick_iff _).2 carries), tickNotices, tickEntries, Clock.ticked, if_pos carries, if_pos carries,
      if_pos carries, minuteTick_set (by simp only [queueNotices_eq, seconded_isSet, set]), queueNotices_append]
    simp only [queueNotices_eq, List.foldl_append]
  · rw [if_neg (mt (isMinuteTick_iff _).1 carries), tickNotices, tickEntries, Clock.ticked, if_neg carries, if_neg carries,
      if_neg carries, List.append_nil]

/-! ## CLOCK_SET and CLOCK_GET -/

section
variable {serial day hour minute second : Byte} {s : State}

theorem exec_clockSet_of_handler {x : State × Reply} (ready : LinkReady s)
    (h : handleClockSet day hour minute second s = x) : exec (.clockSet serial day hour minute second) s =
      .next (x.1.answered { kind := 0x30, serial := serial, payload := [day, hour, minute, second] } x.2) :=
  request_replied serial ready rfl (congrArg replied h)

/-- The clock that a CLOCK_SET leaves (R118). -/
def clockOf (t : Settings) (day hour minute second : Byte) : Clock :=
  { isSet := true, day := day.toNat, hour := hour.toNat, minute := minute.toNat, second := second.toNat, frameCount := 0,
    held := false, night := inWindow t.nightStart t.nightEnd (hour.toNat * 60 + minute.toNat) }

theorem handleClockSet_of_bad_field (h : 7 < day.toNat ∨ 23 < hour.toNat ∨ 59 < minute.toNat ∨ 59 < second.toNat) :
    handleClockSet day hour minute second s = (s, refuse .badField) := if_pos h

theorem handleClockSet_of_time (h : ¬ (7 < day.toNat ∨ 23 < hour.toNat ∨ 59 < minute.toNat ∨ 59 < second.toNat)) :
    handleClockSet day hour minute second s =
      (evaluateWake { s with clock := clockOf s.settings day hour minute second },
        okReply [day, hour, minute, second,
          flag (inWindow s.settings.nightStart s.settings.nightEnd (hour.toNat * 60 + minute.toNat))]) := by
  have fields : clockFields day.toNat hour.toNat minute.toNat second.toNat = [day, hour, minute, second] := by
    simp only [clockFields, u8_toNat]
  refine (if_neg h).trans ?_
  exact congrArg (fun items => (evaluateWake { s with clock := clockOf s.settings day hour minute second },
    okReply (items ++ [flag (inWindow s.settings.nightStart s.settings.nightEnd (hour.toNat * 60 + minute.toNat))]))) fields

end

theorem inWindow_between {start stop t : Nat} (h : start < stop) : inWindow start stop t = true ↔ start ≤ t ∧ t < stop := by
  simp [inWindow, h]

theorem inWindow_around {start stop t : Nat} (h : stop < start) : inWindow start stop t = true ↔ start ≤ t ∨ t < stop := by
  simp [inWindow, h, Nat.lt_asymm h]

theorem inWindow_equal {start stop t : Nat} (h : start = stop) : inWindow start stop t = false := by
  simp [inWindow, h]

/-- Settles O35: the two requests, and the three shapes of the window. -/
theorem clockRequestsAnswerAndNight : Obligations.ClockRequestsAnswerAndNight := by
  refine ⟨fun s serial day hour minute second ready => ⟨fun bad => ?_, fun inDay inHour inMinute inSecond => ?_, ?_⟩,
    fun start stop t => ⟨inWindow_between, inWindow_around, inWindow_equal, fun _ high => ?_⟩⟩
  · exact exec_clockSet_of_handler ready (handleClockSet_of_bad_field bad)
  · intro tod m night due
    have minute_eq : (clockOf s.settings day hour minute second).journeyMinute = m := Nat.add_assoc _ _ _
    rw [exec_clockSet_of_handler ready (handleClockSet_of_time (by omega)), evaluateWake_set rfl, minute_eq]
    rfl
  · exact request_replied serial ready rfl (x := handleClockGet s) rfl
  · rcases Nat.lt_trichotomy start stop with between | same | around
    · exact ⟨stop, high, by rw [← Bool.not_eq_true, inWindow_between between]; omega⟩
    · exact ⟨0, by omega, inWindow_equal same⟩
    · exact ⟨stop, high, by rw [← Bool.not_eq_true, inWindow_around around]; omega⟩

/-! ## The clock at a lane frame start -/

section
variable {line : Line} {strobe : Bool} {s : State} {n : Notice}

theorem clockFrame_unset (unset : s.clock.isSet = false) : clockFrame s = s := if_neg (by rw [unset]; decide)

theorem clockFrame_counts (set : s.clock.isSet = true) (short : s.clock.frameCount + 1 < 1000) :
    clockFrame s = { s with clock := { s.clock with frameCount := s.clock.frameCount + 1 } } :=
  (if_pos set).trans (if_neg (by omega))

theorem clockFrame_ticks (set : s.clock.isSet = true) (full : 1000 ≤ s.clock.frameCount + 1) :
    clockFrame s = secondTick s := (if_pos set).trans (if_pos full)

/-- A notice of the clock or of the wake scheduler is queued by the clock's work alone. -/
theorem keepsCount_clock (own : KeepsCount (beforeClock line strobe s) (clockFrame (beforeClock line strobe s)) n)
    (kind : n.OfClock) : KeepsCount s (frameBegun line strobe s) n := by
  refine keepsCount_frameBegun (((beforeClock_queues line strobe s).keepsCount ?_).trans
    (own.trans ((beforeMixer_queues line strobe s).keepsCount ?_)))
  all_goals
    cases n <;> simp_all [Notice.OfTimer, Notice.OfProgrammes, Notice.OfProgramme, Notice.OfEmergency, Notice.OfLanes,
      Notice.OfBerth, Notice.OfLane, Notice.OfClock, Notice.OfVoice]

theorem reports_clock (own : Reports (beforeClock line strobe s) (clockFrame (beforeClock line strobe s)) n) :
    Reports s (frameBegun line strobe s) n :=
  reports_frameBegun (((beforeClock_queues line strobe s).reports own).then_ (beforeMixer_queues line strobe s))

end

section
variable {u v : State} {c : Clock} {w : Wake} {ns : List Notice} {n : Notice}

theorem reports_tick (h : v = queueNotices ns { u with clock := c, wake := w }) (mem : n ∈ ns) : Reports u v n := by
  rw [h]
  exact (Queues.of_link (K := fun _ => True) (t := { u with clock := c, wake := w }) rfl).reports
    (reports_queueNotices mem _)

theorem keepsCount_tick (h : v = queueNotices ns { u with clock := c, wake := w }) (other : n ∉ ns) : KeepsCount u v n := by
  rw [h]
  exact (Queues.after (K := fun m => m ∈ ns) (.notices fun _ h => h) rfl).keepsCount other

theorem keepsCount_counts (h : v = { u with clock := c }) : KeepsCount u v n := by
  rw [h]
  rfl

/-- The second tick reads the settings, the clock and the wake list alone. -/
theorem secondTick_of {s : State} (settings : u.settings = s.settings) (clock : u.clock = s.clock) (wake : u.wake = s.wake)
    (set : s.clock.isSet = true) : secondTick u = queueNotices (tickNotices s.settings s.clock s.wake.entries)
      { u with
        clock := s.clock.ticked s.settings
        wake := { s.wake with entries := tickEntries s.settings s.clock s.wake.entries } } := by
  rw [secondTick_eq (by rw [clock]; exact set), settings, clock, wake]

end

/-- Settles O36: the second tick in closed form, its events, and the clock at a lane frame start. -/
theorem clockTicks : Obligations.ClockTicks := by
  unfold Obligations.ClockTicks
  intro ofClock
  have kind (n : Notice) (h : ofClock n) : n.OfClock := by
    rcases h with ⟨_, _, _, _, _, rfl⟩ | ⟨_, _, _, _, _, rfl⟩ <;> trivial
  refine ⟨fun s unset => ⟨fun quiet => ⟨?_, ?_⟩, fun line strobe => ?_⟩, fun s set => ?_, fun _ _ => rfl⟩
  · have kept : secondTickEvent s = s := if_neg (by rw [unset]; decide)
    show goOn (secondTickEvent s) = _
    rw [kept]
    exact goOn_sent quiet rfl
  · have kept : minuteTickEvent s = s := if_neg (by simp [unset])
    show goOn (minuteTickEvent s) = _
    rw [kept]
    exact goOn_sent quiet rfl
  · have still : clockFrame (beforeClock line strobe s) = beforeClock line strobe s := clockFrame_unset (by simpa using unset)
    refine ⟨?_, fun n hn => keepsCount_clock (by rw [still]; rfl) (kind n hn)⟩
    rw [frameBegun_clock, still]
    simp
  · intro c atLimit carry hour minute clock now counted spent limited due rung rings notices
    have clock_eq : clock = c.ticked s.settings := by
      unfold Clock.ticked Clock.seconded
      by_cases held : c.held = true
      · rw [if_neg fun h => absurd (held.symm.trans h.2.1) (by decide)]
        exact (if_pos held).trans (if_pos held).symm
      · by_cases last : c.AtLimit
        · rw [if_neg fun h => h.2.2 last, if_neg held, if_pos last]
          exact (if_neg held).trans (if_pos last)
        · by_cases second : c.second + 1 < 60
          · rw [if_neg fun h => by have := h.1; omega, if_neg held, if_neg last, if_pos second]
            exact (if_neg held).trans ((if_neg last).trans (if_pos second))
          · rw [if_pos ⟨Nat.not_lt.1 second, by simpa using held, last⟩, if_neg held, if_neg last, if_neg second]
            exact (if_neg held).trans ((if_neg last).trans (if_neg second))
    have now_eq : now = c.seconded.journeyMinute := by
      show clock.journeyMinute = _
      rw [clock_eq, Clock.ticked]
      split <;> rfl
    have notices_eq : notices = tickNotices s.settings c s.wake.entries := by
      rw [tickNotices, ← now_eq]
      rfl
    have tick : secondTick s = queueNotices notices { s with
        clock := clock
        wake := { s.wake with
          entries := if carry then (s.wake.entries.map limited).map (rung now) else s.wake.entries.map limited } } := by
      have entries : (if carry then (s.wake.entries.map limited).map (rung now) else s.wake.entries.map limited) =
          tickEntries s.settings c s.wake.entries := by
        rw [tickEntries, ← now_eq]
        rfl
      rw [secondTick_eq set, notices_eq, clock_eq, entries]
    refine ⟨tick, fun quiet => ?_, fun quiet held => ?_, fun quiet free => ?_, fun line strobe => ⟨fun short => ?_,
      fun full => ?_⟩⟩
    · have acts : secondTickEvent s = secondTick s := if_pos set
      show goOn (secondTickEvent s) = _
      rw [acts]
      exact goOn_sent quiet (secondTick_queues s).buffer
    · have kept : minuteTickEvent s = s := if_neg (by simp [show s.clock.held = true from held])
      show goOn (minuteTickEvent s) = _
      rw [kept]
      exact goOn_sent quiet rfl
    · intro m
      have acts : minuteTickEvent s = minuteTick s := if_pos (by simp [set, show s.clock.held = false from free])
      show goOn (minuteTickEvent s) = _
      rw [acts, goOn_sent quiet (minuteTick_queues s).buffer, minuteTick_set set]
      rfl
    · have counts := clockFrame_counts (s := beforeClock line strobe s) (by simpa using set) (by simpa using short)
      refine ⟨?_, fun n hn => keepsCount_clock (keepsCount_counts counts) (kind n hn)⟩
      rw [frameBegun_clock, counts]
      simp [c]
    · have ticks := clockFrame_ticks (s := beforeClock line strobe s) (by simpa using set) (by simpa using full)
      have queued := secondTick_of (u := beforeClock line strobe s) (s := s) (by simp) (by simp) (by simp) set
      rw [← ticks] at queued
      have named : tickNotices s.settings s.clock s.wake.entries = notices := notices_eq.symm
      rw [named] at queued
      refine ⟨?_, fun n hn => reports_clock (reports_tick queued hn),
        fun n hn other => keepsCount_clock (keepsCount_tick queued other) (kind n hn)⟩
      rw [frameBegun_clock, queued, (queueNotices_keeps _ _).2.2.2.2.2.2.2.1]
      exact clock_eq.symm

/-! ## The chimes at a lane frame start -/

theorem chimeSample_of_found {es : List WakeEntry} {b : Berth} {e : WakeEntry} (k : Nat)
    (found : es.find? (fun x => x.berth == b) = some e) : chimeSample es b k = e.chimeAt k := by
  have found : entryOf es b = some e := found
  simp only [chimeSample, found]

theorem chimeSample_of_none {es : List WakeEntry} {b : Berth} (k : Nat) (none : ∀ e ∈ es, e.berth ≠ b) :
    chimeSample es b k = 0 := by
  simp only [chimeSample, entryOf_eq_none none]

theorem chimeAt_ne_zero {e : WakeEntry} {k : Nat} (h : e.chimeAt k ≠ 0) : e.state = .ringing ∧ e.deferred = false := by
  unfold WakeEntry.chimeAt at h
  split at h
  · rename_i sounds
    exact ⟨sounds.1, sounds.2.1⟩
  · exact absurd rfl h

theorem judge_eq (e : WakeEntry) (audible : Bool) : e.judge audible =
    if e.state = .ringing then
      if audible = true then
        { e with deferred := false, cycle := if e.deferred then 0 else if e.cycle = 999 then 0 else e.cycle + 1 }
      else { e with deferred := true, cycle := 0 }
    else e := by
  obtain ⟨berth, stop, lead, due, state, seconds, deferred, cycle⟩ := e
  unfold WakeEntry.judge
  refine if_congr Iff.rfl (if_congr Iff.rfl ?_ rfl) rfl
  cases deferred <;> rfl

theorem judge_sounds {e : WakeEntry} {audible : Bool} (ringing : (e.judge audible).state = .ringing)
    (sounds : (e.judge audible).deferred = false) : audible = true := by
  rw [judge_eq] at ringing sounds
  split at sounds
  · split at sounds
    · assumption
    · exact absurd sounds Bool.noConfusion
  · rename_i silent
    rw [if_neg silent] at ringing
    exact absurd ringing silent

theorem chimeAudible_iff (s : State) (b : Berth) : chimeAudible s b = true ↔ s.berths[b].present = true ∧
    coveredBy s.voice b = none ∧ inSet s.test.frameSet b = false ∧ s.emergency.latch = false := by
  simp [chimeAudible, and_assoc]

theorem chimeAudible_congr {s t : State} (b : Berth) (berths : t.berths = s.berths) (voice : t.voice = s.voice)
    (test : t.test.frameSet = s.test.frameSet) (emergency : t.emergency = s.emergency) :
    chimeAudible t b = chimeAudible s b := by
  simp only [chimeAudible, berths, voice, test, emergency]

section
variable (line : Line) (strobe : Bool) (s : State)

/-- The wake list that the chimes of a frame are judged on (steps 1 to 3 of R140). -/
theorem beforeVoice_wake : (beforeVoice line strobe s).wake =
    if s.clock.isSet = true ∧ 1000 ≤ s.clock.frameCount + 1 then (secondTick s).wake else s.wake := by
  unfold beforeVoice
  by_cases set : s.clock.isSet = true
  · by_cases full : 1000 ≤ s.clock.frameCount + 1
    · rw [if_pos ⟨set, full⟩, clockFrame_ticks (by simpa using set) (by simpa using full), secondTick_eq set,
        secondTick_of (u := beforeClock line strobe s) (s := s) (by simp) (by simp) (by simp) set,
        (queueNotices_keeps _ _).2.2.2.2.2.2.2.2.1, (queueNotices_keeps _ _).2.2.2.2.2.2.2.2.1]
    · rw [if_neg fun h => full h.2, clockFrame_counts (by simpa using set) (by simpa using Nat.not_le.1 full)]
      simp
  · have unset : s.clock.isSet = false := by simpa using set
    rw [if_neg fun h => set h.1, clockFrame_unset (by simpa using unset)]
    simp

/-- Every entry is judged with the values that its neighbours hold for the frame (R137). -/
theorem frameBegun_wake : (frameBegun line strobe s).wake = { (beforeVoice line strobe s).wake with
    entries := (beforeVoice line strobe s).wake.entries.map fun e =>
      e.judge (chimeAudible (frameBegun line strobe s) e.berth) } := by
  obtain ⟨routes, wake, programmes, voice⟩ := frameBegun_mixed line strobe s
  obtain ⟨emergency, -, berths, -⟩ := beforeVoice_reads line strobe s
  have audible (b : Berth) : chimeAudible (routeFrame (takeWaits s) (voiceFrame (beforeVoice line strobe s).emergency.latch
      (beforeVoice line strobe s).test.frameSet (beforeVoice line strobe s))) b =
        chimeAudible (frameBegun line strobe s) b := by
    refine chimeAudible_congr b ?_ ?_ ?_ ?_
    · simpa using berths
    · rw [voice]
      simp [beforeMixer]
    · rw [← beforeVoice_frameSet]
      simp
    · simpa using emergency
  rw [wake, beforeMixer]
  dsimp only
  rw [chimeFrame, setEntries_wake, funext fun e : WakeEntry => congrArg e.judge (audible e.berth)]
  simp

end

/-- Settles O40: the judged list, and the chime sample of an entry. -/
theorem frameStartJudgesChimes : Obligations.FrameStartJudgesChimes := by
  refine ⟨fun s line => ⟨rfl, fun strobe => ?_⟩, fun es b k => ⟨chimeSample_of_none k, fun e found => ?_⟩⟩
  · intro t ticks entries audible
    have record : t.wake = _ := frameBegun_wake line strobe s
    have found := beforeVoice_wake line strobe s
    have list : (beforeVoice line strobe s).wake.entries = entries :=
      (congrArg Wake.entries found).trans
        (apply_ite Wake.entries (s.clock.isSet = true ∧ 1000 ≤ s.clock.frameCount + 1) (secondTick s).wake s.wake)
    have stops : (beforeVoice line strobe s).wake.stops = s.wake.stops := by
      rw [found]
      split
      · rename_i ticked
        rw [secondTick_eq ticked.1, (queueNotices_keeps _ _).2.2.2.2.2.2.2.2.1]
      · rfl
    have judged : t.wake.entries = entries.map fun e => e.judge (chimeAudible t e.berth) := by
      rw [record, ← list]
    refine ⟨?_, ?_, fun b k sounds => ?_⟩
    · rw [record, ← stops]
    · rw [judged]
      refine List.map_congr_left fun e _ => ?_
      rw [judge_eq]
      exact if_congr Iff.rfl (if_congr (chimeAudible_iff t e.berth) rfl rfl) rfl
    · have heard : ∃ e, t.wake.entries.find? (fun x => x.berth == b) = some e := by
        by_contra missing
        refine sounds (chimeSample_of_none k fun e mem own => missing ?_)
        exact Option.isSome_iff_exists.1 (List.find?_isSome.2 ⟨e, mem, by simpa using own⟩)
      obtain ⟨e, found⟩ := heard
      rw [chimeSample_of_found k found] at sounds
      obtain ⟨ringing, undeferred⟩ := chimeAt_ne_zero sounds
      have own : e.berth = b := by simpa using List.find?_some found
      have mem := List.mem_of_find?_eq_some found
      rw [judged] at mem
      obtain ⟨e₀, -, rfl⟩ := List.mem_map.1 mem
      rw [(judge_keeps e₀ _).1] at own
      rw [own] at ringing undeferred
      exact (chimeAudible_iff t b).1 (judge_sounds ringing undeferred)
  · exact chimeSample_of_found k found

end Sys2Proof.Machine
end

section
/-! The stops and the wake-ups (O37, O38) and the call press (O41). -/

namespace Sys2Proof.Machine

/-! ## Evaluation, SET or UNSET -/

/-- An entry rings when the list is evaluated with this clock (R135). -/
abbrev WakeEntry.RingsBy (c : Clock) (e : WakeEntry) : Prop := c.isSet = true ∧ e.state = .armed ∧ e.due ≤ c.journeyMinute

/-- An entry once the list has been evaluated (R135). -/
def WakeEntry.evaluated (c : Clock) (e : WakeEntry) : WakeEntry :=
  if e.RingsBy c then { e with state := .ringing, ringSeconds := 0, deferred := true, cycle := 0 } else e

/-- The DUE notices of an evaluation (R135). -/
def ringNotices (c : Clock) (es : List WakeEntry) : List Notice :=
  (es.filter fun e => decide (e.RingsBy c)).map fun e => .wakeState e.berth e.stop .ringing .due 0

theorem evaluateWake_eq (s : State) : evaluateWake s = queueNotices (ringNotices s.clock s.wake.entries)
    { s with wake := { s.wake with entries := s.wake.entries.map (WakeEntry.evaluated s.clock) } } := by
  by_cases set : s.clock.isSet = true
  · have due (e : WakeEntry) : e.RingsBy s.clock ↔ e.DueAt s.clock.journeyMinute := and_iff_right set
    have rung : WakeEntry.evaluated s.clock = WakeEntry.rung s.clock.journeyMinute :=
      funext fun e => if_congr (due e) rfl rfl
    have list : ringNotices s.clock s.wake.entries = dueNotices s.clock.journeyMinute s.wake.entries := by
      simp only [ringNotices, dueNotices, due]
    rw [evaluateWake_set set, rung, list]
  · have silent (e : WakeEntry) : ¬ e.RingsBy s.clock := fun h => set h.1
    have kept : WakeEntry.evaluated s.clock = id := funext fun e => if_neg (silent e)
    have list : ringNotices s.clock s.wake.entries = [] := by simp [ringNotices, set]
    rw [evaluateWake_unset (by simpa using set), kept, list, List.map_id]
    rfl

theorem evaluated_berth (c : Clock) (e : WakeEntry) : (e.evaluated c).berth = e.berth := by
  unfold WakeEntry.evaluated
  split <;> rfl

theorem evaluated_state_of_rings {c : Clock} {e : WakeEntry} (h : e.RingsBy c) : (e.evaluated c).state = .ringing := by
  rw [WakeEntry.evaluated, if_pos h]

theorem evaluated_of_silent {c : Clock} {e : WakeEntry} (h : ¬ e.RingsBy c) : e.evaluated c = e := if_neg h

/-- What an evaluation of a new wake record leaves of the other blocks. -/
theorem evaluateWake_rest {s : State} (w : Wake) :
    { evaluateWake { s with wake := w } with wake := s.wake, link := s.link } = s ∧
    (evaluateWake { s with wake := w }).link = (queueNotices (ringNotices s.clock w.entries) s).link ∧
    (evaluateWake { s with wake := w }).wake = { w with entries := w.entries.map (WakeEntry.evaluated s.clock) } := by
  rw [evaluateWake_eq, queueNotices_eq, queueNotices_eq]
  exact ⟨rfl, rfl, rfl⟩

/-! ## STOP_SET -/

theorem nameClipOf_clipField (name : Option ClipNo) : nameClipOf (clipField name) = some name := by
  revert name
  decide

theorem nameClipOf_none {b : Byte} (h : 64 < b.toNat) : nameClipOf b = none := by
  unfold nameClipOf
  rw [if_neg (by rintro rfl; simp at h), indexOf_none (.inr h)]
  rfl

/-- The entries of a stop with new due minutes stand in order among the others (R136). -/
theorem reviseEntries_order (t : StopNo) (eta : Nat) {es : List WakeEntry} (nodup : (es.map WakeEntry.berth).Nodup)
    (order : es.Pairwise Ahead) : (reviseEntries t eta es).Pairwise Ahead := by
  refine insertEntries_order (order.filter _) ?_
  have berths : (((es.filter fun e => e.stop == t).map fun e => { e with due := dueMinute eta e.lead }).map
      WakeEntry.berth) = (es.filter fun e => e.stop == t).map WakeEntry.berth := List.map_map
  rw [List.map_append, berths, ← List.map_append]
  have parts : ((es.filter fun e => e.stop == t) ++ es.filter fun e => e.stop != t).Perm es :=
    List.filter_append_perm _ es
  exact (parts.map WakeEntry.berth).nodup_iff.2 nodup

section
variable {serial stop nameClip : Byte} {eta : BitVec 16} {t : StopNo} {name : Option ClipNo} {s : State}

theorem exec_stopSet_of_handler {x : State × Reply} (ready : LinkReady s) (h : handleStopSet stop eta nameClip s = x) :
    exec (.stopSet serial stop eta nameClip) s = .next (x.1.answered
      { kind := 0x32, serial := serial, payload := [stop, highByte eta, lowByte eta, nameClip] } x.2) := by
  have field : field16 [stop, highByte eta, lowByte eta, nameClip] 1 = eta := high_low eta
  have passed : passOn .stopSet [stop, highByte eta, lowByte eta, nameClip] s = replied x := by
    rw [← h]
    simp only [passOn, field]
    rfl
  exact request_replied serial ready rfl passed

theorem handleStopSet_of_bad_field (h : stop.toNat < 1 ∨ 24 < stop.toNat ∨ 64 < nameClip.toNat) :
    handleStopSet stop eta nameClip s = (s, refuse .badField) := by
  rcases (by omega : (stop.toNat < 1 ∨ 24 < stop.toNat) ∨ 64 < nameClip.toNat) with badStop | badName
  · simp only [handleStopSet, indexOf_none badStop]
  · cases found : indexOf 24 stop <;> simp only [handleStopSet, found, nameClipOf_none badName]

variable (ht : stop.toNat = t.val + 1) (hn : clipField name = nameClip)
include ht hn

theorem handleStopSet_of_passed (passed : s.wake.stops[t].state = .passed) :
    handleStopSet stop eta nameClip s = (s, refuse .wrongState) := by
  subst hn
  simp only [handleStopSet, indexOf_some ht, nameClipOf_clipField]
  exact if_pos passed

theorem handleStopSet_of_stop (open_ : s.wake.stops[t].state ≠ .passed) : handleStopSet stop eta nameClip s =
    (evaluateWake { s with wake :=
      { stops := s.wake.stops.set t { state := .ahead, eta := min eta.toNat 11519, nameClip := name },
        entries := reviseEntries t (min eta.toNat 11519) s.wake.entries } },
      okReply (u16 (min eta.toNat 11519))) := by
  subst hn
  simp only [handleStopSet, indexOf_some ht, nameClipOf_clipField]
  exact if_neg open_

end

/-! ## STOP_PASSED, STOP_CLEAR and STOP_LIST -/

section
variable {serial stop : Byte} {t : StopNo} {s : State}

/-- An entry of the stop is ARMED or RINGING. -/
abbrev WakeEntry.LiveOf (t : StopNo) (e : WakeEntry) : Prop := e.stop = t ∧ (e.state = .armed ∨ e.state = .ringing)

theorem live_eq (t : StopNo) (e : WakeEntry) : e.live t = decide (e.LiveOf t) := by
  rw [WakeEntry.live, Bool.decide_and, Bool.decide_or]
  rfl

theorem exec_stopPassed_of_handler {x : State × Reply} (ready : LinkReady s) (h : handleStopPassed stop s = x) :
    exec (.stopPassed serial stop) s = .next (x.1.answered { kind := 0x33, serial := serial, payload := [stop] } x.2) :=
  request_replied serial ready rfl (congrArg replied h)

theorem exec_stopClear_of_handler {x : State × Reply} (ready : LinkReady s) (h : handleStopClear stop s = x) :
    exec (.stopClear serial stop) s = .next (x.1.answered { kind := 0x34, serial := serial, payload := [stop] } x.2) :=
  request_replied serial ready rfl (congrArg replied h)

theorem handleStopPassed_of_bad_field (h : stop.toNat < 1 ∨ 24 < stop.toNat) :
    handleStopPassed stop s = (s, refuse .badField) := by
  simp only [handleStopPassed, indexOf_none h]

theorem handleStopClear_of_bad_field (h : stop.toNat < 1 ∨ 24 < stop.toNat) :
    handleStopClear stop s = (s, refuse .badField) := by
  simp only [handleStopClear, indexOf_none h]

variable (ht : stop.toNat = t.val + 1)
include ht

theorem handleStopPassed_of_other (h : s.wake.stops[t].state ≠ .ahead) :
    handleStopPassed stop s = (s, refuse .wrongState) := by
  simp only [handleStopPassed, indexOf_some ht]
  exact if_neg h

theorem handleStopPassed_of_ahead (h : s.wake.stops[t].state = .ahead) : handleStopPassed stop s =
    (queueNotices ((s.wake.entries.filter fun e => decide (e.LiveOf t)).map fun e =>
        .wakeState e.berth e.stop .missed .passed 0)
      { s with wake :=
        { stops := s.wake.stops.set t { s.wake.stops[t] with state := .passed },
          entries := s.wake.entries.map fun e =>
            if e.LiveOf t then { e with state := .missed, deferred := false } else e } }, okReply []) := by
  have missed : (fun e : WakeEntry => if e.live t then e.miss else e) = fun e =>
      if e.LiveOf t then { e with state := .missed, deferred := false } else e := by
    funext e
    rw [live_eq]
    exact if_congr decide_eq_true_iff rfl rfl
  simp only [handleStopPassed, indexOf_some ht]
  refine (if_pos h).trans ?_
  rw [missed, funext (live_eq t)]
  rfl

theorem handleStopClear_of_live (h : ∃ e ∈ s.wake.entries, e.LiveOf t) :
    handleStopClear stop s = (s, refuse .inUse) := by
  simp only [handleStopClear, indexOf_some ht]
  obtain ⟨e, mem, live⟩ := h
  exact if_pos (List.any_eq_true.2 ⟨e, mem, by rw [live_eq]; exact decide_eq_true live⟩)

theorem handleStopClear_of_no_live (h : ∀ e ∈ s.wake.entries, ¬ e.LiveOf t) : handleStopClear stop s =
    ({ s with wake :=
      { stops := s.wake.stops.set t { state := .unused, eta := 0, nameClip := none },
        entries := s.wake.entries.filter fun e => e.stop != t } }, okReply []) := by
  simp only [handleStopClear, indexOf_some ht]
  refine if_neg fun any => ?_
  obtain ⟨e, mem, live⟩ := List.any_eq_true.1 any
  rw [live_eq] at live
  exact h e mem (of_decide_eq_true live)

end

/-- Settles O37: the branches of the three handlers; the revised entries keep the order of the list. -/
theorem stopRequestsAct : Obligations.StopRequestsAct := by
  refine ⟨fun s serial stop eta nameClip ready => ?_, fun s serial stop ready => ⟨fun bad => ?_, fun t ht => ?_, ?_⟩⟩
  · intro f run
    refine ⟨fun bad => exec_stopSet_of_handler ready (handleStopSet_of_bad_field bad), fun t name ht hn =>
      ⟨fun passed => exec_stopSet_of_handler ready (handleStopSet_of_passed ht hn passed), fun open_ => ?_⟩⟩
    intro e before due
    obtain ⟨rest, link, wake⟩ := evaluateWake_rest (s := s)
      { stops := s.wake.stops.set t { state := .ahead, eta := e, nameClip := name },
        entries := reviseEntries t e s.wake.entries }
    refine ⟨reviseEntries t e s.wake.entries, _, reviseEntries_perm t e s.wake.entries, reviseEntries_order t e, rest, link,
      fun k => ?_, congrArg Wake.entries wake, exec_stopSet_of_handler ready (handleStopSet_of_stop ht hn open_)⟩
    rw [wake]
    by_cases own : k = t
    · subst own
      simp
    · have other : t.val ≠ k.val := fun h => own (Fin.ext h.symm)
      simp [own, other]
  · exact ⟨exec_stopPassed_of_handler ready (handleStopPassed_of_bad_field bad),
      exec_stopClear_of_handler ready (handleStopClear_of_bad_field bad)⟩
  · intro live
    exact ⟨fun other => exec_stopPassed_of_handler ready (handleStopPassed_of_other ht other),
      fun ahead => exec_stopPassed_of_handler ready (handleStopPassed_of_ahead ht ahead),
      fun some => exec_stopClear_of_handler ready (handleStopClear_of_live ht some),
      fun none => exec_stopClear_of_handler ready (handleStopClear_of_no_live ht none)⟩
  · exact request_replied serial ready rfl (x := handleStopList s) rfl

/-! ## WAKE_SET -/

theorem entryOf_map {g : WakeEntry → WakeEntry} (keeps : ∀ e, (g e).berth = e.berth) (es : List WakeEntry) (b : Berth) :
    entryOf (es.map g) b = (entryOf es b).map g := by
  rw [entryOf, entryOf, List.find?_map]
  simp only [Function.comp_def, keeps]

theorem entryOf_insertEntry {es : List WakeEntry} {e : WakeEntry} (fresh : ∀ x ∈ es, x.berth ≠ e.berth) :
    entryOf (insertEntry es e) e.berth = some e := by
  induction es with
  | nil => simp [insertEntry, entryOf]
  | cons x es ih =>
    unfold insertEntry
    split
    · simp [entryOf]
    · have other : (x.berth == e.berth) = false := by simpa using fresh x (List.mem_cons_self ..)
      rw [entryOf, List.find?_cons_of_neg (by simp [other])]
      exact ih fun y hy => fresh y (List.mem_cons_of_mem _ hy)

section
variable {serial berth stop lead : Byte} {b : Berth} {t : StopNo} {s : State}

theorem exec_wakeSet_of_handler {x : State × Reply} (ready : LinkReady s) (h : handleWakeSet berth stop lead s = x) :
    exec (.wakeSet serial berth stop lead) s =
      .next (x.1.answered { kind := 0x36, serial := serial, payload := [berth, stop, lead] } x.2) :=
  request_replied serial ready rfl (congrArg replied h)

theorem handleWakeSet_of_bad_field (h : berth.toNat < 1 ∨ 40 < berth.toNat ∨ stop.toNat < 1 ∨ 24 < stop.toNat) :
    handleWakeSet berth stop lead s = (s, refuse .badField) := by
  rcases (by omega : (berth.toNat < 1 ∨ 40 < berth.toNat) ∨ (stop.toNat < 1 ∨ 24 < stop.toNat)) with badBerth | badStop
  · simp only [handleWakeSet, indexOf_none badBerth]
  · cases found : indexOf 40 berth <;> simp only [handleWakeSet, found, indexOf_none badStop]

/-- The entry that a WAKE_SET books (R132). -/
def bookedEntry (s : State) (b : Berth) (t : StopNo) (lead : Byte) : WakeEntry :=
  { berth := b, stop := t, lead := min 60 (max 5 lead.toNat), due := s.wake.stops[t].eta - min 60 (max 5 lead.toNat),
    state := .armed, ringSeconds := 0, deferred := false, cycle := 0 }

/-- The list with the booked entry in its place (R131, R132). -/
def bookedList (s : State) (b : Berth) (t : StopNo) (lead : Byte) : List WakeEntry :=
  insertEntry (s.wake.entries.filter fun x => x.berth != b) (bookedEntry s b t lead)

theorem entryOf_booked : entryOf (evaluateWake { s with wake := { s.wake with entries := bookedList s b t lead } }).wake.entries b =
    some ((bookedEntry s b t lead).evaluated s.clock) := by
  obtain ⟨-, -, wake⟩ := evaluateWake_rest (s := s) { s.wake with entries := bookedList s b t lead }
  have found : entryOf (bookedList s b t lead) b = some (bookedEntry s b t lead) :=
    entryOf_insertEntry (e := bookedEntry s b t lead) fun x mem => by
      show x.berth ≠ b
      simpa using (List.mem_filter.1 mem).2
  rw [wake]
  dsimp only
  rw [entryOf_map (evaluated_berth s.clock), found]
  rfl

variable (hb : berth.toNat = b.val + 1) (ht : stop.toNat = t.val + 1)
include hb ht

theorem handleWakeSet_of_other (h : s.wake.stops[t].state ≠ .ahead) :
    handleWakeSet berth stop lead s = (s, refuse .wrongState) := by
  simp only [handleWakeSet, indexOf_some hb, indexOf_some ht]
  exact if_neg h

theorem handleWakeSet_of_ahead (h : s.wake.stops[t].state = .ahead) : handleWakeSet berth stop lead s =
    (evaluateWake { s with wake := { s.wake with entries := bookedList s b t lead } },
      okReply ([u8 (bookedEntry s b t lead).lead] ++ u16 (bookedEntry s b t lead).due ++
        [((bookedEntry s b t lead).evaluated s.clock).state.code])) := by
  simp only [handleWakeSet, indexOf_some hb, indexOf_some ht]
  refine (if_pos h).trans ?_
  have found : entryOf (evaluateWake (setEntries (fun es => insertEntry (es.filter fun x => x.berth != b)
      { berth := b, stop := t, lead := clamp 5 60 lead.toNat,
        due := dueMinute s.wake.stops[t].eta (clamp 5 60 lead.toNat) }) s)).wake.entries b =
      some ((bookedEntry s b t lead).evaluated s.clock) := entryOf_booked
  rw [found]
  rfl

end

theorem otherBerth_eq (b : Berth) (e : WakeEntry) : (e.berth != b) = decide (e.berth ≠ b) := by
  rw [bne, Bool.beq_eq_decide_eq, ← decide_not]

theorem otherBerth_ne {b : Berth} {es : List WakeEntry} {x : WakeEntry} (mem : x ∈ es.filter fun x => x.berth != b) :
    b ≠ x.berth :=
  fun h => bne_iff_ne.1 (List.mem_filter.1 mem).2 h.symm

/-- Settles O38: the booked entry takes its place, and the evaluation that follows decides its code in the reply. -/
theorem wakeSetBooks : Obligations.WakeSetBooks := by
  intro s serial berth stop lead ready f run
  refine ⟨fun bad => exec_wakeSet_of_handler ready (handleWakeSet_of_bad_field bad), fun b t hb ht =>
    ⟨fun other => exec_wakeSet_of_handler ready (handleWakeSet_of_other hb ht other), fun ahead => ?_⟩⟩
  intro l due now before rings new
  obtain ⟨rest, link, wake⟩ := evaluateWake_rest (s := s) { s.wake with entries := bookedList s b t lead }
  have answer := exec_wakeSet_of_handler (serial := serial) ready (handleWakeSet_of_ahead (lead := lead) hb ht ahead)
  have state (code : Byte) (h : ((bookedEntry s b t lead).evaluated s.clock).state.code = code) :
      run = .next (State.answered (evaluateWake { s with wake := { s.wake with entries := bookedList s b t lead } }) f
        (okReply ([u8 l] ++ u16 due ++ [code]))) := h ▸ answer
  refine ⟨bookedList s b t lead, _, ?_, fun order => ?_, rest, ?_, link, ?_, fun rung => state 1 ?_,
    fun still => state 0 ?_⟩
  · rw [← funext (otherBerth_eq b)]
    exact insertEntry_perm _ _
  · exact insertEntry_order (order.filter _) fun x mem => otherBerth_ne mem
  · rw [wake]
  · rw [wake]
    rfl
  · exact congrArg WakeEntryState.code (evaluated_state_of_rings ⟨rung.1, rfl, rung.2⟩)
  · exact congrArg (fun e => WakeEntryState.code (WakeEntry.state e)) (evaluated_of_silent fun h => still ⟨h.1, h.2.2⟩)

/-! ## The call press -/

theorem setOf_single (b : Berth) : setOf (fun x => x == b) = 1#40 <<< b.val := by
  refine BitVec.eq_of_getLsbD_eq fun i lt => ?_
  refine (inSet_setOf (fun x => x == b) ⟨i, lt⟩).trans ?_
  rw [← BitVec.twoPow_eq, BitVec.getLsbD_twoPow]
  rw [Bool.beq_eq_decide_eq, decide_eq_true b.isLt, Bool.true_and]
  exact decide_eq_decide.2 (by rw [Fin.ext_iff, eq_comm])

theorem recordHeld_iff (v : Voice) (i : Byte) : idHeld v i = true ↔ ∃ r ∈ v.records, r.id = i := by
  simp [idHeld]

theorem u8_auto (k : Nat) (lt : k < 16) : (u8 (240 + k)).toNat = 240 + k :=
  Nat.mod_eq_of_lt (by omega)

theorem mem_autoIds (i : Byte) : i ∈ autoIds ↔ 240 ≤ i.toNat := by
  rw [autoIds, List.mem_map]
  constructor
  · rintro ⟨k, mem, rfl⟩
    rw [u8_auto k (List.mem_range.1 mem)]
    omega
  · intro le
    have lt := i.isLt
    refine ⟨i.toNat - 240, List.mem_range.2 (by omega), BitVec.eq_of_toNat_eq ?_⟩
    rw [u8_auto _ (by omega)]
    omega

theorem freeAutoId_none {v : Voice} (all : ∀ i : Byte, 240 ≤ i.toNat → ∃ r ∈ v.records, r.id = i) :
    freeAutoId v = none :=
  List.find?_eq_none.2 fun i mem => by simp [(recordHeld_iff v i).2 (all i ((mem_autoIds i).1 mem))]

/-- The lowest free id is the first one of the ascending list that no record holds (R63). -/
theorem freeAutoId_some {v : Voice} {i : Byte} (auto : 240 ≤ i.toNat) (free : ∀ r ∈ v.records, r.id ≠ i)
    (lower : ∀ j : Byte, 240 ≤ j.toNat → j.toNat < i.toNat → ∃ r ∈ v.records, r.id = j) : freeAutoId v = some i := by
  have lt := i.isLt
  have unheld : idHeld v i = false := Bool.eq_false_iff.2 fun h =>
    let ⟨r, mem, eq⟩ := (recordHeld_iff v i).1 h
    free r mem eq
  have code : u8 (240 + (i.toNat - 240)) = i := BitVec.eq_of_toNat_eq (by rw [u8_auto _ (by omega)]; omega)
  have first : (List.range 16).find? ((fun i => !idHeld v i) ∘ fun k => u8 (240 + k)) = some (i.toNat - 240) := by
    refine List.find?_range_eq_some.2 ⟨?_, List.mem_range.2 (by omega), fun k less => ?_⟩
    · show (!idHeld v (u8 (240 + (i.toNat - 240)))) = true
      rw [code, unheld]
      rfl
    · obtain ⟨r, mem, eq⟩ := lower (u8 (240 + k)) (by rw [u8_auto k (by omega)]; omega) (by rw [u8_auto k (by omega)]; omega)
      simp [(recordHeld_iff v _).2 ⟨r, mem, eq⟩]
  rw [freeAutoId, autoIds, List.find?_map, first]
  exact congrArg some code

theorem playableName_none {name : Option ClipNo} {s : State}
    (h : ∀ c, name = some c → (s.clips.variant c 0).state ≠ .ready) : playableName name s = none := by
  cases name with
  | none => rfl
  | some c =>
    have unready : ¬ variantReady s c 0 = true := fun ready => h c rfl (beq_iff_eq.1 ready)
    exact if_neg unready

theorem playableName_ready {c : ClipNo} {s : State} (h : (s.clips.variant c 0).state = .ready) :
    playableName (some c) s = some c :=
  if_pos (show variantReady s c 0 = true from beq_iff_eq.2 h)

/-- The record of an automatic announcement (R64). -/
def autoRecord (b : Berth) (c : ClipNo) (i : Byte) : Announcement :=
  { id := i, cls := .stop, origin := .clip c, berths := 1#40 <<< b.val, repeats := 1, card := none }

/-- No class is below STOP, so a STOP record never preempts (R42, R64). -/
theorem placesPending_stop {r : Announcement} {s : State} (stop : r.cls = .stop) :
    placesPending r s = true ↔ s.emergency.latch = true ∨ s.voice.active ≠ none := by
  have low (a : Announcement) : ¬ a.cls.rank < r.cls.rank := by
    rw [stop]
    cases a.cls <;> decide
  unfold placesPending
  cases active : s.voice.active <;> simp [low]

theorem place_stop_waits {r : Announcement} {s : State} (stop : r.cls = .stop)
    (h : s.emergency.latch = true ∨ s.voice.active ≠ none) : place r s = (joinWaiting r s, .pending) := by
  unfold place
  split
  · rfl
  · rename_i clear
    split
    · rename_i idle
      exact absurd idle (h.resolve_left clear)
    · rename_i a _
      have low : ¬ a.cls.rank < r.cls.rank := by
        rw [stop]
        cases a.cls <;> decide
      exact if_neg low

theorem place_idle {r : Announcement} {s : State} (clear : s.emergency.latch = false) (idle : s.voice.active = none) :
    place r s = (takeChannel r s, .active) := by
  simp [place, clear, idle]

section
variable {b : Berth} {c : ClipNo} {i : Byte} {s : State}

theorem autoAnnounce_of_named (ready : (s.clips.variant c 0).state = .ready) (free : freeAutoId s.voice = some i) :
    autoAnnounce b (some c) s = if placesPending (autoRecord b c i) s && decide (16 ≤ s.voice.waiting.length)
      then (s, .queueFull) else ((place (autoRecord b c i) s).1, .ok i) := by
  simp only [autoAnnounce, playableName_ready ready, free, setOf_single]
  rfl

theorem autoAnnounce_no_clip {name : Option ClipNo} (h : ∀ c, name = some c → (s.clips.variant c 0).state ≠ .ready) :
    autoAnnounce b name s = (s, .noClip) := by
  simp only [autoAnnounce, playableName_none h]

theorem autoAnnounce_no_id (ready : (s.clips.variant c 0).state = .ready) (none : freeAutoId s.voice = none) :
    autoAnnounce b (some c) s = (s, .noId) := by
  simp only [autoAnnounce, playableName_ready ready, none]

/-- The state once the berth's entry is ACKED (R141). -/
def acknowledged (b : Berth) (s : State) : State :=
  setEntries (fun es => es.map fun x => if x.berth = b then { x with state := .acked, deferred := false } else x) s

theorem callPress_of_not_ringing (h : ∀ e, s.wake.entries.find? (fun e => e.berth == b) = some e → e.state ≠ .ringing) :
    callPress b s = queueNotice (.call b) s := by
  unfold callPress
  split
  · rfl
  · rename_i e found
    exact if_neg (h e found)

theorem callPress_of_ringing {e : WakeEntry} (found : entryOf s.wake.entries b = some e) (ringing : e.state = .ringing)
    {u : State} {answer : AutoAnswer}
    (h : autoAnnounce b s.wake.stops[e.stop].nameClip (acknowledged b s) = (u, answer)) :
    callPress b s = queueNotice (wakeNotice e .acked (answerReason answer).1 (answerReason answer).2) u := by
  simp only [callPress, found]
  refine (if_pos ringing).trans ?_
  show queueNotice (wakeNotice e .acked (answerReason (autoAnnounce b s.wake.stops[e.stop].nameClip (acknowledged b s)).2).1
    (answerReason (autoAnnounce b s.wake.stops[e.stop].nameClip (acknowledged b s)).2).2)
      (autoAnnounce b s.wake.stops[e.stop].nameClip (acknowledged b s)).1 = _
  rw [h]

/-- STATUS_FIELD_ACCEPTED of a pressed call field is a call press and no report (R159, R160). -/
theorem fieldAcceptedEvent_call (present : s.berths[b].present = true) (candidate : s.berths[b].call.candidate = some true)
    (unpressed : s.berths[b].call.accepted = false) : fieldAcceptedEvent b .call s =
      callPress b (setBerth b (fun x => { x with call := { x.call with accepted := true, run := 3 } }) s) := by
  have taken : s.berths[b].acceptField .call =
      { s.berths[b] with call := { s.berths[b].call with accepted := true, run := 3 } } := by
    simp only [BerthLink.acceptField, Debounced.accept, candidate]
  have waits : (s.berths[b].present && s.berths[b].fieldWaits .call) = true := by
    simp only [BerthLink.fieldWaits, present, candidate, unpressed]
    rfl
  have silent : reportable s.berths[b] (s.berths[b].acceptField .call) = false := by
    simp only [taken, reportable, bne_self_eq_false, Bool.or_false]
  have presses : pressedNow s.berths[b] (s.berths[b].acceptField .call) = true := by
    simp only [taken, pressedNow, unpressed]
    rfl
  have same : setBerth b (fun _ => s.berths[b].acceptField .call) s =
      setBerth b (fun x => { x with call := { x.call with accepted := true, run := 3 } }) s :=
    congrArg (fun berths => { s with berths := berths }) (amend_congr s.berths b taken)
  unfold fieldAcceptedEvent
  refine (if_pos waits).trans ?_
  dsimp only
  rw [silent, presses, same]
  rfl

end

/-- Settles O41: each check of R64 in turn, on the state with the entry ACKED. -/
theorem callPressAcknowledges : Obligations.CallPressAcknowledges := by
  refine ⟨fun s b quiet present candidate unpressed => ?_, fun s b => ⟨callPress_of_not_ringing, fun e found ringing => ?_⟩⟩
  · rw [← fieldAcceptedEvent_call present candidate unpressed]
    exact goOn_sent quiet (fieldAcceptedEvent_queues b .call s).buffer
  · intro acked name answers
    refine ⟨beq_iff_eq.1 (List.find?_some (p := fun e : WakeEntry => e.berth == b) found), fun unready => ?_, fun c named ready => ⟨fun all => ?_,
      fun i auto free lower => ?_⟩⟩
    · exact callPress_of_ringing found ringing (autoAnnounce_no_clip unready)
    · exact callPress_of_ringing found ringing ((congrArg (autoAnnounce b · (acknowledged b s)) named).trans
        (autoAnnounce_no_id ready (freeAutoId_none all)))
    · have asked := (congrArg (autoAnnounce b · (acknowledged b s)) named).trans
        (autoAnnounce_of_named (s := acknowledged b s) ready (freeAutoId_some auto free lower))
      have waits := placesPending_stop (r := autoRecord b c i) (s := acknowledged b s) rfl
      have answered (room : ¬ (s.emergency.latch = true ∨ s.voice.active ≠ none) ∨ s.voice.waiting.length < 16) :
          callPress b s = queueNotice (.wakeState e.berth e.stop .acked .announced i)
            (place (autoRecord b c i) (acknowledged b s)).1 := by
        refine callPress_of_ringing found ringing (asked.trans (if_neg fun both => ?_))
        obtain ⟨pending, full⟩ := Bool.and_eq_true_iff.1 both
        exact room.elim (fun h => h (waits.1 pending)) fun h => absurd (of_decide_eq_true full) (Nat.not_le.2 h)
      intro r
      refine ⟨fun clear idle => ?_, fun busy room => ?_, fun busy full => ?_⟩
      · have free : ¬ (s.emergency.latch = true ∨ s.voice.active ≠ none) := by simp [clear, idle]
        have placed := place_idle (r := autoRecord b c i) (s := acknowledged b s) clear idle
        exact (answered (.inl free)).trans (congrArg (fun x => queueNotice _ x.1) placed)
      · have placed := place_stop_waits (r := autoRecord b c i) (s := acknowledged b s) rfl busy
        exact (answered (.inr room)).trans (congrArg (fun x => queueNotice _ x.1) placed)
      · exact callPress_of_ringing found ringing (asked.trans (if_pos (Bool.and_eq_true_iff.2
          ⟨waits.2 busy, decide_eq_true full⟩)))

end Sys2Proof.Machine
end

section
/-! The voice channel: reselection and preemption (O24), progress events (O23) and the requests (O21, O22). -/

namespace Sys2Proof.Machine

/-! ## Reselection and preemption -/

section
variable {s : State} {head top a : Announcement} {rest below : List Announcement}

theorem pick_head (waiting : s.voice.waiting = head :: rest)
    (above : ∀ top below, s.voice.stack = top :: below → top.cls.rank < head.cls.rank) :
    pick s.voice.waiting s.voice.stack = .head head rest := by
  rw [waiting]
  cases stack : s.voice.stack with
  | nil => rfl
  | cons top below => exact if_pos (above top below stack)

theorem pick_pop (stack : s.voice.stack = top :: below)
    (atMost : ∀ head rest, s.voice.waiting = head :: rest → head.cls.rank ≤ top.cls.rank) :
    pick s.voice.waiting s.voice.stack = .pop top below := by
  rw [stack]
  cases waiting : s.voice.waiting with
  | nil => rfl
  | cons head rest => exact if_neg (Nat.not_lt.2 (atMost head rest waiting))

theorem reselect_idle (waiting : s.voice.waiting = []) (stack : s.voice.stack = []) : reselect s = s := by
  have idle : pick s.voice.waiting s.voice.stack = .idle := by
    rw [waiting, stack]
    rfl
  simp only [reselect, reselectFor, idle]

theorem reselect_of_head (h : pick s.voice.waiting s.voice.stack = .head head rest) :
    reselect s = takeHead head rest s := by
  simp only [reselect, reselectFor, h]

theorem popped_eq (below : List Announcement) (s : State) : popped below s = { s with voice := { s.voice with
    stack := below,
    stackLimitArmed := s.voice.stackLimitArmed || decide (below.length < s.settings.depthLimit) } } := by
  unfold popped rearm
  split
  · rename_i shallow
    have : decide (below.length < s.settings.depthLimit) = true := decide_eq_true shallow
    rw [this, Bool.or_true]
    rfl
  · rename_i deep
    have : decide (below.length < s.settings.depthLimit) = false := decide_eq_false deep
    rw [this, Bool.or_false]
    rfl

/-- A popped record that ends at once leaves the choice to a further round (R46). -/
theorem reselect_of_ended {reason : EndReason} (stack : s.voice.stack = top :: below)
    (h : pick s.voice.waiting s.voice.stack = .pop top below) (why : poppedEnd top = some reason) :
    reselect s = reselect (endNotice top.id reason (popped below s)) := by
  have fewer : (endNotice top.id reason (popped below s)).voice.stack = below := by
    rw [popped_eq]
    rfl
  rw [reselect, reselect, fewer, stack, List.length_cons, reselectFor, h]
  simp only [why]

theorem reselect_of_resumed (h : pick s.voice.waiting s.voice.stack = .pop top below) (why : poppedEnd top = none) :
    reselect s = takeChannel top (popped below s) := by
  simp only [reselect, reselectFor, h, why]

theorem preemptionCheck_empty (waiting : s.voice.waiting = []) : preemptionCheck s = s := by
  simp only [preemptionCheck, waiting]

variable (waiting : s.voice.waiting = head :: rest)
include waiting

theorem preemptionCheck_idle (idle : s.voice.active = none) :
    preemptionCheck s = takeChannel head (setVoice (fun v => { v with waiting := rest }) s) := by
  simp only [preemptionCheck, waiting, idle]

theorem preemptionCheck_preempts (active : s.voice.active = some a) (above : a.cls.rank < head.cls.rank)
    (room : s.voice.stack.length < s.settings.depthLimit) :
    preemptionCheck s = pushAndTake a head (setVoice (fun v => { v with waiting := rest }) s) := by
  simp only [preemptionCheck, waiting, active]
  exact if_pos ⟨above, room⟩

theorem preemptionCheck_stays (active : s.voice.active = some a)
    (h : head.cls.rank ≤ a.cls.rank ∨ s.settings.depthLimit ≤ s.voice.stack.length) : preemptionCheck s = s := by
  simp only [preemptionCheck, waiting, active]
  exact if_neg fun both => h.elim (Nat.not_le.2 both.1) (Nat.not_le.2 both.2)

end

/-- Settles O24: one lemma per pick of the pending head and the stack top. -/
theorem reselectionFillsChannel : Obligations.ReselectionFillsChannel := by
  refine ⟨fun s idle => ?_, fun s => ⟨preemptionCheck_empty, fun head rest waiting =>
    ⟨preemptionCheck_idle waiting, fun a active => ⟨preemptionCheck_preempts waiting active,
      preemptionCheck_stays waiting active⟩⟩⟩⟩
  intro awaits pop
  refine ⟨reselect_idle, fun head rest waiting above => reselect_of_head (pick_head waiting above),
    fun top below stack atMost => ?_⟩
  have picked := pick_pop stack atMost
  have same : pop below = popped below s := (popped_eq below s).symm
  rw [same]
  refine ⟨fun withdrawn => reselect_of_ended stack picked (if_pos withdrawn), fun kept due =>
    reselect_of_ended stack picked ?_, fun kept open_ => reselect_of_resumed picked ?_⟩
  · simp [poppedEnd, kept, due]
  · simp [poppedEnd, kept, open_]

/-! ## Progress events -/

section
variable {s : State} {a : Announcement}

theorem playing_none (h : s.voice.active = none ∨ s.voice.frozenFrame = true ∨
    ∃ a, s.voice.active = some a ∧ a.awaitingStart = true) : playing s = none := by
  unfold playing
  split
  · rfl
  · rename_i r active
    refine if_pos ?_
    rcases h with idle | frozen | ⟨a, found, awaits⟩
    · exact absurd (active.symm.trans idle) (Option.some_ne_none r)
    · rw [frozen, Bool.or_true]
    · obtain rfl := Option.some.inj (active.symm.trans found)
      rw [awaits, Bool.true_or]

theorem playing_some (active : s.voice.active = some a) (started : a.awaitingStart = false)
    (running : s.voice.frozenFrame = false) : playing s = some a := by
  simp [playing, active, started, running]

/-- The active record ends for a reason, and the channel is filled (R46, R65). -/
def endedBy (reason : EndReason) (a : Announcement) (s : State) : State := reselect (endActive reason a s)

theorem dueEnds_withdrawn (active : s.voice.active = some a) (withdrawn : a.withdrawn = true) :
    dueEnds s = endActive .withdrawn a s := by
  simp [dueEnds, active, withdrawn]

theorem dueEnds_done (active : s.voice.active = some a) (kept : a.withdrawn = false) (due : a.endDue = true) :
    dueEnds s = endActive .done a s := by
  simp [dueEnds, active, kept, due]

theorem dueEnds_none (active : s.voice.active = some a) (kept : a.withdrawn = false) (open_ : a.endDue = false) :
    dueEnds s = s := by
  simp [dueEnds, active, kept, open_]

theorem progress_due (active : s.voice.active = some a) (act : State → State) (due : a.withdrawn = true ∨ a.endDue = true) :
    progress a act s = endedBy (if a.withdrawn then .withdrawn else .done) a s := by
  unfold progress
  rw [if_pos (Bool.or_eq_true_iff.2 due)]
  cases withdrawn : a.withdrawn with
  | true => exact congrArg (reselectIfFreed true) (dueEnds_withdrawn active withdrawn)
  | false =>
    have open_ : a.endDue = true := due.resolve_left (by simp [withdrawn])
    exact congrArg (reselectIfFreed true) (dueEnds_done active withdrawn open_)

theorem progress_acts (act : State → State) (open_ : ¬ (a.withdrawn = true ∨ a.endDue = true)) :
    progress a act s = reselectIfFreed true (act s) := by
  unfold progress
  rw [if_neg fun h => open_ (Bool.or_eq_true_iff.1 h)]

theorem reselectIfFreed_active (had : Bool) (active : s.voice.active = some a) : reselectIfFreed had s = s := by
  simp [reselectIfFreed, active]

/-! ### The end of a repeat -/

theorem repeatOver_last (last : a.repeats ≤ a.currentRepeat) : repeatOver a s = endActive .done a s := if_pos last

theorem repeatOver_gap (more : a.currentRepeat < a.repeats) (gap : 0 < s.settings.repeatGap) :
    repeatOver a s = setVoice (fun v => { v with
      active := some { a with phase := .gap, gapLeft := s.settings.repeatGap, currentRepeat := a.currentRepeat + 1 },
      readers := [] }) s :=
  (if_neg (Nat.not_le.2 more)).trans (if_pos gap)

theorem repeatOver_again (more : a.currentRepeat < a.repeats) (none : s.settings.repeatGap = 0) :
    repeatOver a s = startRepeat { a with currentRepeat := a.currentRepeat + 1 } s :=
  (if_neg (Nat.not_le.2 more)).trans (if_neg (by omega))

theorem startRepeat_clip {c : ClipNo} (clip : a.origin = .clip c) : startRepeat a s = setVoice (fun v => { v with
    active := some { a with phase := .playing, framesPlayed := 0 }, readers := newReaders s.clips c }) s := by
  simp only [startRepeat, clip]

theorem reselectIfFreed_startRepeat {c : ClipNo} (clip : a.origin = .clip c) :
    reselectIfFreed true (startRepeat a s) = setVoice (fun v => { v with
      active := some { a with phase := .playing, framesPlayed := 0 }, readers := newReaders s.clips c }) s := by
  rw [startRepeat_clip clip]
  exact reselectIfFreed_active true rfl

section
variable {c : ClipNo} (plays : playing s = some a) (clip : a.origin = .clip c)
include plays clip

theorem liveTimeoutEvent_clip : liveTimeoutEvent s = s := by
  simp only [liveTimeoutEvent, plays, clip]

theorem repeatEndEvent_playing (phase : a.phase = .playing) :
    repeatEndEvent s = progress a (repeatOver { a with framesPlayed := repeatLength s.voice.readers }) s := by
  simp only [repeatEndEvent, plays, clip, phase]

theorem repeatEndEvent_gap (phase : a.phase = .gap) : repeatEndEvent s = s := by
  simp only [repeatEndEvent, plays, clip, phase]

theorem gapEndEvent_playing (phase : a.phase = .playing) : gapEndEvent s = s := by
  simp only [gapEndEvent, plays, clip, phase]

theorem gapEndEvent_gap (phase : a.phase = .gap) : gapEndEvent s = progress a (startRepeat { a with gapLeft := 0 }) s := by
  simp only [gapEndEvent, plays, clip, phase]

end

section
variable {m : Mic} (plays : playing s = some a) (live : a.origin = .mic m)
include plays live

theorem repeatEndEvent_live : repeatEndEvent s = s := by
  simp only [repeatEndEvent, plays, live]

theorem gapEndEvent_live : gapEndEvent s = s := by
  simp only [gapEndEvent, plays, live]

theorem liveTimeoutEvent_live : liveTimeoutEvent s = progress a (endActive .timeout a) s := by
  simp only [liveTimeoutEvent, plays, live]

end

end

theorem exec_repeatEnd {s t : State} (quiet : LinkQuiet s) (h : repeatEndEvent s = t) :
    exec .repeatEnd s = .next t.sent :=
  h ▸ goOn_sent quiet (repeatEndEvent_queues s).buffer

theorem exec_gapEnd {s t : State} (quiet : LinkQuiet s) (h : gapEndEvent s = t) : exec .gapEnd s = .next t.sent :=
  h ▸ goOn_sent quiet (gapEndEvent_queues s).buffer

theorem exec_liveTimeout {s t : State} (quiet : LinkQuiet s) (h : liveTimeoutEvent s = t) :
    exec .liveTimeout s = .next t.sent :=
  h ▸ goOn_sent quiet (liveTimeoutEvent_queues s).buffer

/-- Settles O23: each event acts on the record of its origin and phase alone, by `progress`. -/
theorem progressEventsAct : Obligations.ProgressEventsAct := by
  refine fun s quiet => ⟨fun silent => ?_, fun a active started running => ?_⟩
  · have plays := playing_none silent
    exact ⟨exec_repeatEnd quiet (by simp only [repeatEndEvent, plays]),
      exec_gapEnd quiet (by simp only [gapEndEvent, plays]),
      exec_liveTimeout quiet (by simp only [liveTimeoutEvent, plays])⟩
  · have plays := playing_some active started running
    intro ended due dueReason
    refine ⟨fun c clip phase => ?_, fun c clip phase => ?_, fun m live => ?_⟩
    · have event := repeatEndEvent_playing plays clip phase
      refine ⟨exec_gapEnd quiet (gapEndEvent_playing plays clip phase),
        exec_liveTimeout quiet (liveTimeoutEvent_clip plays clip),
        fun isDue => exec_repeatEnd quiet (event.trans (progress_due active _ isDue)), fun open_ last => ?_,
        fun open_ more gap => ?_, fun open_ more none => ?_⟩ <;>
        refine exec_repeatEnd quiet (event.trans ((progress_acts _ open_).trans ?_))
      · exact congrArg (reselectIfFreed true)
          (repeatOver_last (a := { a with framesPlayed := repeatLength s.voice.readers }) last)
      · rw [repeatOver_gap (a := { a with framesPlayed := repeatLength s.voice.readers }) more gap]
        exact reselectIfFreed_active true rfl
      · rw [repeatOver_again (a := { a with framesPlayed := repeatLength s.voice.readers }) more none]
        refine (reselectIfFreed_startRepeat (a := { a with
          framesPlayed := repeatLength s.voice.readers, currentRepeat := a.currentRepeat + 1 }) clip).trans ?_
        rw [phase]
    · have event := gapEndEvent_gap plays clip phase
      refine ⟨exec_repeatEnd quiet (repeatEndEvent_gap plays clip phase),
        exec_liveTimeout quiet (liveTimeoutEvent_clip plays clip),
        fun isDue => exec_gapEnd quiet (event.trans (progress_due active _ isDue)), fun open_ =>
        exec_gapEnd quiet (event.trans ((progress_acts _ open_).trans ?_))⟩
      exact reselectIfFreed_startRepeat (a := { a with gapLeft := 0 }) clip
    · have event := liveTimeoutEvent_live plays live
      exact ⟨exec_repeatEnd quiet (repeatEndEvent_live plays live), exec_gapEnd quiet (gapEndEvent_live plays live),
        fun isDue => exec_liveTimeout quiet (event.trans (progress_due active _ isDue)), fun open_ =>
        exec_liveTimeout quiet (event.trans (progress_acts _ open_))⟩

/-! ## ANNOUNCE -/

theorem classOf_none {b : Byte} (h : b.toNat < 1 ∨ 4 < b.toNat) : classOf b = none := by
  unfold classOf
  split
  · simp [*] at h
  · split
    · simp [*] at h
    · split
      · simp [*] at h
      · exact if_neg (by rintro rfl; simp at h)

theorem classOf_rank (k : AnnClass) : classOf (u8 k.rank) = some k := by
  cases k <;> rfl

theorem classOf_some {b : Byte} (h : ¬ (b.toNat < 1 ∨ 4 < b.toNat)) : ∃ k, classOf b = some k := by
  have code : b = u8 1 ∨ b = u8 2 ∨ b = u8 3 ∨ b = u8 4 := by
    rcases (by omega : b.toNat = 1 ∨ b.toNat = 2 ∨ b.toNat = 3 ∨ b.toNat = 4) with h | h | h | h
    · exact .inl (BitVec.eq_of_toNat_eq h)
    · exact .inr (.inl (BitVec.eq_of_toNat_eq h))
    · exact .inr (.inr (.inl (BitVec.eq_of_toNat_eq h)))
    · exact .inr (.inr (.inr (BitVec.eq_of_toNat_eq h)))
  rcases code with rfl | rfl | rfl | rfl
  · exact ⟨.stop, rfl⟩
  · exact ⟨.service, rfl⟩
  · exact ⟨.crew, rfl⟩
  · exact ⟨.safety, rfl⟩

theorem originOf_code {o : Origin} {clip : Byte} (h : ∀ c, o = .clip c → clip.toNat = c.val + 1) :
    originOf o.code clip = some o := by
  cases o with
  | clip c => exact congrArg (Option.map Origin.clip) (indexOf_some (h c rfl))
  | mic m => cases m <;> rfl

theorem originOf_none {code clip : Byte}
    (h : 2 < code.toNat ∨ (code = 0 ∧ (clip.toNat < 1 ∨ 64 < clip.toNat))) : originOf code clip = none := by
  rcases h with above | ⟨rfl, clip⟩
  · unfold originOf
    split
    · simp [*] at above
    · split
      · simp [*] at above
      · exact if_neg (by rintro rfl; simp at above)
  · exact congrArg (Option.map Origin.clip) (indexOf_none clip)

theorem originOf_some {code clip : Byte}
    (h : ¬ (2 < code.toNat ∨ (code = 0 ∧ (clip.toNat < 1 ∨ 64 < clip.toNat)))) : ∃ o, originOf code clip = some o := by
  rcases (by omega : code.toNat = 0 ∨ code.toNat = 1 ∨ code.toNat = 2) with eq | eq | eq
  · obtain rfl : code = 0 := BitVec.eq_of_toNat_eq eq
    have range : ¬ (clip.toNat < 1 ∨ 64 < clip.toNat) := fun bad => h (.inr ⟨rfl, bad⟩)
    have lt : clip.toNat - 1 < 64 := by omega
    refine ⟨.clip ⟨clip.toNat - 1, lt⟩, congrArg (Option.map Origin.clip) (indexOf_some ?_)⟩
    show clip.toNat = clip.toNat - 1 + 1
    omega
  · obtain rfl : code = 1 := BitVec.eq_of_toNat_eq eq
    exact ⟨.mic .micA, rfl⟩
  · obtain rfl : code = 2 := BitVec.eq_of_toNat_eq eq
    exact ⟨.mic .micB, rfl⟩

/-- A record is accepted with the fields of its request (R41). -/
def acceptedRecord (id : Byte) (k : AnnClass) (o : Origin) (set : BerthSet) (repeats : Byte) (cd : Option Byte) :
    Announcement :=
  { id := id, cls := k, origin := o, berths := set, repeats := repeatsOf o repeats, card := cd }

section
variable {id cls origin clip repeats card : Byte} {set : BerthSet} {s : State}

/-- ANNOUNCE with a field outside its range (check 1 to 5 of R41). -/
abbrev AnnounceBad (id cls origin clip : Byte) (set : BerthSet) (card : Byte) : Prop :=
  id.toNat < 1 ∨ 239 < id.toNat ∨ cls.toNat < 1 ∨ 4 < cls.toNat ∨ 2 < origin.toNat ∨
    (origin = 0 ∧ (clip.toNat < 1 ∨ 64 < clip.toNat)) ∨ 253 < card.toNat ∨ set = 0

theorem exec_announce_of_handler {serial : Byte} {x : State × Reply} (ready : LinkReady s)
    (h : handleAnnounce id cls origin clip set repeats card s = x) :
    exec (.announce serial id cls origin clip set repeats card) s = .next (x.1.answered
      { kind := 0x20, serial := serial, payload := [id, cls, origin, clip] ++ setField set ++ [repeats, card] } x.2) := by
  have read : fieldSet ([id, cls, origin, clip] ++ setField set ++ [repeats, card]) 4 = set := by
    simpa using fieldSet_setField [id, cls, origin, clip] [repeats, card] set
  have passed : passOn .announce ([id, cls, origin, clip] ++ setField set ++ [repeats, card]) s = replied x := by
    rw [← h, passOn, read]
    rfl
  exact request_replied serial ready rfl passed

theorem handleAnnounce_of_bad_id (h : id.toNat < 1 ∨ 239 < id.toNat) :
    handleAnnounce id cls origin clip set repeats card s = (s, refuse .badField) := by
  refine if_pos (h.imp (fun low => ?_) fun high => high)
  exact BitVec.eq_of_toNat_eq (by simpa using Nat.lt_one_iff.1 low)

/-- The request once its id and its coded fields are read (R41). -/
theorem handleAnnounce_of_fields {k : AnnClass} {o : Origin} {cd : Option Byte}
    (hid : ¬ (id.toNat < 1 ∨ 239 < id.toNat)) (hk : classOf cls = some k) (ho : originOf origin clip = some o)
    (hd : cardOf card = some cd) : handleAnnounce id cls origin clip set repeats card s =
      if set = 0 then (s, refuse .badField)
      else if idHeld s.voice id then (s, refuse .idInUse)
      else if clipMissing o s then (s, refuse .noClip)
      else if placesPending (acceptedRecord id k o set repeats cd) s && decide (16 ≤ s.voice.waiting.length)
        then (s, refuse .queueFull)
      else ((place (acceptedRecord id k o set repeats cd) s).1,
        okReply [(place (acceptedRecord id k o set repeats cd) s).2.code]) := by
  simp only [handleAnnounce, hk, ho, hd]
  refine if_neg ?_
  rintro (rfl | high)
  · simp at hid
  · omega

theorem handleAnnounce_of_bad (h : AnnounceBad id cls origin clip set card) :
    handleAnnounce id cls origin clip set repeats card s = (s, refuse .badField) := by
  by_cases badId : id.toNat < 1 ∨ 239 < id.toNat
  · exact handleAnnounce_of_bad_id badId
  · have reached : ¬ (id = 0 ∨ 240 ≤ id.toNat) := by
      rintro (rfl | high)
      · simp at badId
      · omega
    refine (if_neg reached).trans ?_
    split
    · rename_i k o cd hk ho hd
      refine if_pos ?_
      by_contra set
      have noClass := mt classOf_none (Option.ne_none_iff_exists'.2 ⟨k, hk⟩)
      have noOrigin := mt originOf_none (Option.ne_none_iff_exists'.2 ⟨o, ho⟩)
      have noCard := mt cardOf_none (Option.ne_none_iff_exists'.2 ⟨cd, hd⟩)
      exact h.elim (badId ∘ .inl) fun h => h.elim (badId ∘ .inr) fun h => h.elim (noClass ∘ .inl) fun h =>
        h.elim (noClass ∘ .inr) fun h => h.elim (noOrigin ∘ .inl) fun h => h.elim (noOrigin ∘ .inr) fun h =>
        h.elim noCard set
    · rfl

theorem handleAnnounce_of_held (ok : ¬ AnnounceBad id cls origin clip set card)
    (held : ∃ r ∈ s.voice.records, r.id = id) :
    handleAnnounce id cls origin clip set repeats card s = (s, refuse .idInUse) := by
  simp only [AnnounceBad, not_or] at ok
  obtain ⟨low, high, clsLow, clsHigh, originHigh, clipBad, cardHigh, berths⟩ := ok
  obtain ⟨k, hk⟩ := classOf_some (b := cls) (by omega)
  obtain ⟨o, ho⟩ := originOf_some (code := origin) (clip := clip) (not_or.2 ⟨originHigh, clipBad⟩)
  have hd := cardOf_some (Nat.not_lt.1 cardHigh)
  rw [handleAnnounce_of_fields (by omega) hk ho hd, if_neg berths, if_pos ((recordHeld_iff _ _).2 held)]

section
variable {k : AnnClass} {o : Origin} (ok : ¬ AnnounceBad id cls origin clip set card)
  (free : ∀ r ∈ s.voice.records, r.id ≠ id)
include ok free

theorem handleAnnounce_of_free (hk : classOf cls = some k) (ho : originOf origin clip = some o) :
    handleAnnounce id cls origin clip set repeats card s =
      let r := acceptedRecord id k o set repeats (if card = 0 then none else some card)
      if clipMissing o s then (s, refuse .noClip)
      else if placesPending r s && decide (16 ≤ s.voice.waiting.length) then (s, refuse .queueFull)
      else ((place r s).1, okReply [(place r s).2.code]) := by
  simp only [AnnounceBad, not_or] at ok
  obtain ⟨low, high, clsLow, clsHigh, originHigh, clipBad, cardHigh, berths⟩ := ok
  have unheld : ¬ idHeld s.voice id = true := fun h =>
    let ⟨r, mem, eq⟩ := (recordHeld_iff _ _).1 h
    free r mem eq
  rw [handleAnnounce_of_fields (by omega) hk ho (cardOf_some (Nat.not_lt.1 cardHigh)), if_neg berths, if_neg unheld]

theorem handleAnnounce_of_no_clip {c : ClipNo} (live : origin = 0) (hc : clip.toNat = c.val + 1)
    (unready : (s.clips.variant c 0).state ≠ .ready) :
    handleAnnounce id cls origin clip set repeats card s = (s, refuse .noClip) := by
  have fields := ok
  simp only [AnnounceBad, not_or] at fields
  obtain ⟨low, high, clsLow, clsHigh, originHigh, clipBad, cardHigh, berths⟩ := fields
  obtain ⟨k, hk⟩ := classOf_some (b := cls) (by omega)
  have ho : originOf origin clip = some (.clip c) := by
    rw [live]
    exact originOf_code (o := .clip c) fun d eq => (Origin.clip.inj eq) ▸ hc
  rw [handleAnnounce_of_free ok free hk ho]
  refine if_pos ?_
  show (!variantReady s c 0) = true
  simp [variantReady, unready]

variable (hk : cls = u8 k.rank) (ho : origin = o.code) (hc : ∀ c, o = .clip c → clip.toNat = c.val + 1)
  (hr : ∀ c, o = .clip c → (s.clips.variant c 0).state = .ready)
include hk ho hc hr

/-- An accepted record is placed, or finds the pending list full (checks 8 and 9 of R41). -/
theorem handleAnnounce_of_accepted {x : State × Placement} {pending : Bool} {r : Announcement}
    (hr' : r = acceptedRecord id k o set repeats (if card = 0 then none else some card))
    (hp : placesPending r s = pending) (hx : place r s = x) :
    handleAnnounce id cls origin clip set repeats card s =
      if pending && decide (16 ≤ s.voice.waiting.length) then (s, refuse .queueFull) else (x.1, okReply [x.2.code]) := by
  have present : clipMissing o s = false := by
    cases o with
    | clip c => simp [clipMissing, variantReady, hr c rfl]
    | mic m => rfl
  subst hk ho
  rw [handleAnnounce_of_free ok free (classOf_rank k) (originOf_code hc)]
  dsimp only
  rw [present, ← hr', hp, hx]
  rfl

end

/-! ### Placement -/

theorem placesPending_latched {r : Announcement} (latch : s.emergency.latch = true) : placesPending r s = true := by
  simp [placesPending, latch]

theorem place_latched {r : Announcement} (latch : s.emergency.latch = true) :
    place r s = (joinWaiting r s, .pending) := if_pos latch

theorem placesPending_idle {r : Announcement} (clear : s.emergency.latch = false) (idle : s.voice.active = none) :
    placesPending r s = false := by
  simp [placesPending, clear, idle]

section
variable {r a : Announcement} (clear : s.emergency.latch = false) (active : s.voice.active = some a)
include clear active

theorem placesPending_active : placesPending r s =
    !(decide (a.cls.rank < r.cls.rank) && decide (s.voice.stack.length < s.settings.depthLimit)) := by
  simp only [placesPending, clear, active, Bool.false_or]

theorem place_active : place r s = if a.cls.rank < r.cls.rank then
    if s.voice.stack.length < s.settings.depthLimit then (pushAndTake a r s, .active)
    else (stackLimitMet r (joinWaiting r s), .pending) else (joinWaiting r s, .pending) := by
  simp only [place, active]
  exact if_neg (by simp [clear])

end

end

/-- A record joins behind every record of its own or a higher class (R38). -/
theorem insertWaiting_place (list : List Announcement) (r : Announcement)
    (order : list.Pairwise fun x y => y.cls.rank ≤ x.cls.rank) :
    ∃ ahead behind : List Announcement, list = ahead ++ behind ∧ insertWaiting list r = ahead ++ r :: behind ∧
      (∀ x ∈ ahead, r.cls.rank ≤ x.cls.rank) ∧ ∀ x ∈ behind, x.cls.rank < r.cls.rank := by
  induction list with
  | nil => exact ⟨[], [], rfl, rfl, by simp, by simp⟩
  | cons h rest ih =>
    obtain ⟨first, order⟩ := List.pairwise_cons.1 order
    by_cases lower : h.cls.rank < r.cls.rank
    · refine ⟨[], h :: rest, rfl, if_pos lower, by simp, fun x mem => ?_⟩
      rcases List.mem_cons.1 mem with rfl | inRest
      · exact lower
      · exact Nat.lt_of_le_of_lt (first x inRest) lower
    · obtain ⟨ahead, behind, split, joined, high, low⟩ := ih order
      refine ⟨h :: ahead, behind, congrArg (h :: ·) split, (if_neg lower).trans (congrArg (h :: ·) joined), ?_, low⟩
      exact List.forall_mem_cons.2 ⟨Nat.not_lt.1 lower, high⟩

/-- Settles O21: the checks in their order, then one placement per case of R42. -/
theorem announcePlacesRecord : Obligations.AnnouncePlacesRecord := by
  refine ⟨insertWaiting_place, fun s serial id cls origin clip set repeats card ready => ?_⟩
  intro f run bad
  refine ⟨fun isBad => exec_announce_of_handler ready (handleAnnounce_of_bad isBad), fun ok held =>
    exec_announce_of_handler ready (handleAnnounce_of_held ok held), fun ok free => ⟨fun c live hc unready =>
      exec_announce_of_handler ready (handleAnnounce_of_no_clip ok free live hc unready), fun k o hk ho hc hr => ?_⟩⟩
  intro r waits
  have record : r = acceptedRecord id k o set repeats (if card = 0 then none else some card) := by
    cases o <;> rfl
  have rank : r.cls = k := rfl
  have accepted {x : State × Placement} {pending : Bool} (hp : placesPending r s = pending) (hx : place r s = x) :=
    exec_announce_of_handler (serial := serial) ready
      (handleAnnounce_of_accepted (repeats := repeats) ok free hk ho hc hr record hp hx)
  have waiting {t : State} (hp : placesPending r s = true) (hx : place r s = (t, .pending)) :
      run = if 16 ≤ s.voice.waiting.length then .next (s.answered f (refuse .queueFull))
        else .next (t.answered f (okReply [1])) := by
    refine (accepted hp hx).trans ?_
    by_cases full : 16 ≤ s.voice.waiting.length <;> simp only [full, decide_true, decide_false] <;> rfl
  clear_value r
  refine ⟨fun latch => waiting (placesPending_latched latch) (place_latched latch), fun clear idle =>
    accepted (placesPending_idle clear idle) (place_idle clear idle), fun a clear active =>
      ⟨fun above room => ?_, fun notAbove => ?_, fun above deep => ?_⟩⟩
  · rw [← rank] at above
    refine accepted (pending := false) ?_ ((place_active clear active).trans ((if_pos above).trans (if_pos room)))
    rw [placesPending_active clear active, decide_eq_true above, decide_eq_true room]
    rfl
  · have notAbove : ¬ a.cls.rank < r.cls.rank := by
      rw [rank]
      exact Nat.not_lt.2 notAbove
    refine waiting ?_ ((place_active clear active).trans (if_neg notAbove))
    rw [placesPending_active clear active, decide_eq_false notAbove]
    rfl
  · have room : ¬ s.voice.stack.length < s.settings.depthLimit := Nat.not_lt.2 deep
    rw [← rank] at above
    refine (waiting ?_ ((place_active clear active).trans ((if_pos above).trans (if_neg room)))).trans ?_
    · rw [placesPending_active clear active, decide_eq_false room, Bool.and_false]
      rfl
    · have id_eq : r.id = id := by rw [record]; rfl
      have met : stackLimitMet r (joinWaiting r s) = if s.voice.stackLimitArmed then queueNotice
          (.stackLimit id k s.settings.depthLimit s.voice.stack.length)
          (setVoice (fun v => { v with stackLimitArmed := false }) waits) else waits := by
        rw [stackLimitMet, id_eq, rank]
        rfl
      rw [met]
      cases s.voice.stackLimitArmed <;> rfl

/-! ## ANN_END, ANN_WITHDRAW and ANN_LIST -/

section
variable {serial id : Byte} {s : State}

theorem exec_annEnd_of_handler {x : State × Reply} (ready : LinkReady s) (h : handleAnnEnd id s = x) :
    exec (.annEnd serial id) s = .next (x.1.answered { kind := 0x21, serial := serial, payload := [id] } x.2) :=
  request_replied serial ready rfl (congrArg replied h)

theorem exec_annWithdraw_of_handler {x : State × Reply} (ready : LinkReady s) (h : handleAnnWithdraw id s = x) :
    exec (.annWithdraw serial id) s = .next (x.1.answered { kind := 0x22, serial := serial, payload := [id] } x.2) :=
  request_replied serial ready rfl (congrArg replied h)

section
variable (elsewhere : ∀ a, s.voice.active = some a → a.id ≠ id)
include elsewhere

/-- ANN_END of an id that the active record does not hold (R53). -/
theorem handleAnnEnd_of_other : handleAnnEnd id s =
    if idHeld s.voice id then (s, refuse .wrongState) else (s, refuse .notFound) := by
  unfold handleAnnEnd
  split
  · rename_i a active
    exact if_neg (elsewhere a active)
  · rfl

theorem handleAnnWithdraw_of_other : handleAnnWithdraw id s = withdrawOther id s := by
  unfold handleAnnWithdraw
  split
  · rename_i a active
    exact if_neg (elsewhere a active)
  · rfl

end

theorem withdrawOther_of_none (stack : ∀ r ∈ s.voice.stack, r.id ≠ id) (waiting : ∀ r ∈ s.voice.waiting, r.id ≠ id) :
    withdrawOther id s = (s, refuse .notFound) := by
  have unstacked : s.voice.stack.find? (fun r => r.id == id) = none := by simpa using stack
  simp only [withdrawOther, unstacked]
  exact if_neg (by simpa using waiting)

section
variable {a : Announcement} (active : s.voice.active = some a) (own : a.id = id)
include active own

theorem handleAnnEnd_of_withdrawn (withdrawn : a.withdrawn = true) : handleAnnEnd id s = (s, refuse .wrongState) := by
  simp only [handleAnnEnd, active]
  exact (if_pos own).trans (if_pos withdrawn)

theorem handleAnnWithdraw_of_withdrawn (withdrawn : a.withdrawn = true) :
    handleAnnWithdraw id s = (s, refuse .wrongState) := by
  simp only [handleAnnWithdraw, active]
  exact (if_pos own).trans (if_pos withdrawn)

theorem handleAnnWithdraw_of_active (kept : a.withdrawn = false) : handleAnnWithdraw id s =
    (setVoice (fun v => { v with active := some { a with withdrawn := true } }) s, okReply []) := by
  simp only [handleAnnWithdraw, active]
  exact (if_pos own).trans (if_neg (by simp [kept]))

theorem handleAnnEnd_of_playing {c : ClipNo} (kept : a.withdrawn = false) (clip : a.origin = .clip c)
    (phase : a.phase = .playing) : handleAnnEnd id s =
      (setVoice (fun v => { v with active := some { a with repeats := a.currentRepeat } }) s, okReply []) := by
  simp only [handleAnnEnd, active, clip, phase]
  exact (if_pos own).trans (if_neg (by simp [kept]))

theorem handleAnnEnd_of_live_or_gap (kept : a.withdrawn = false)
    (h : (∃ m, a.origin = .mic m) ∨ a.phase = .gap) : handleAnnEnd id s =
      (setVoice (fun v => { v with active := some { a with endDue := true } }) s, okReply []) := by
  simp only [handleAnnEnd, active]
  refine (if_pos own).trans ((if_neg (by simp [kept])).trans ?_)
  split
  · rename_i c clip playing
    rcases h with ⟨m, live⟩ | gap
    · exact absurd (clip.symm.trans live) (by simp)
    · exact absurd (playing.symm.trans gap) (by simp)
  · rfl

end

theorem markStack_append (above below : List Announcement) (r : Announcement) (own : r.id = id)
    (others : ∀ x ∈ above ++ below, x.id ≠ id) :
    markStack (above ++ r :: below) id = above ++ { r with withdrawn := true } :: below := by
  have kept (l : List Announcement) (h : ∀ x ∈ l, x.id ≠ id) :
      l.map (fun r => if r.id = id then { r with withdrawn := true } else r) = l :=
    (List.map_congr_left (g := fun r => r) fun x mem => if_neg (h x mem)).trans (List.map_id' l)
  rw [markStack, List.map_append, List.map_cons, if_pos own,
    kept above fun x mem => others x (List.mem_append_left _ mem),
    kept below fun x mem => others x (List.mem_append_right _ mem)]

theorem find?_id_append (above below : List Announcement) (r : Announcement) (own : r.id = id)
    (others : ∀ x ∈ above, x.id ≠ id) : (above ++ r :: below).find? (fun r => r.id == id) = some r := by
  have none : above.find? (fun r => r.id == id) = none := by simpa using others
  rw [List.find?_append, none, List.find?_cons_of_pos (by simpa using own)]
  rfl

theorem withdrawOther_of_stack {above below : List Announcement} {r : Announcement}
    (stack : s.voice.stack = above ++ r :: below) (own : r.id = id) (others : ∀ x ∈ above ++ below, x.id ≠ id) :
    withdrawOther id s = if r.withdrawn then (s, refuse .wrongState)
      else (setVoice (fun v => { v with stack := above ++ { r with withdrawn := true } :: below }) s, okReply []) := by
  have found : s.voice.stack.find? (fun r => r.id == id) = some r := by
    rw [stack]
    exact find?_id_append above below r own fun x mem => others x (List.mem_append_left _ mem)
  have marked : markStack s.voice.stack id = above ++ { r with withdrawn := true } :: below := by
    rw [stack]
    exact markStack_append above below r own others
  simp only [withdrawOther, found, setVoice, marked]

theorem withdrawOther_of_waiting {ahead behind : List Announcement} {r : Announcement}
    (unstacked : ∀ x ∈ s.voice.stack, x.id ≠ id) (waiting : s.voice.waiting = ahead ++ r :: behind) (own : r.id = id)
    (others : ∀ x ∈ ahead ++ behind, x.id ≠ id) : withdrawOther id s =
      (endNotice id .withdrawn (setVoice (fun v => { v with waiting := ahead ++ behind }) s), okReply []) := by
  have none : s.voice.stack.find? (fun r => r.id == id) = none := by simpa using unstacked
  have kept (l : List Announcement) (h : ∀ x ∈ l, x.id ≠ id) : l.filter (fun r => r.id != id) = l :=
    List.filter_eq_self.2 fun x mem => bne_iff_ne.2 (h x mem)
  have left : s.voice.waiting.filter (fun r => r.id != id) = ahead ++ behind := by
    rw [waiting, List.filter_append, List.filter_cons_of_neg (by simp [own]),
      kept ahead fun x mem => others x (List.mem_append_left _ mem),
      kept behind fun x mem => others x (List.mem_append_right _ mem)]
  simp only [withdrawOther, none, setVoice, left]
  refine if_pos ?_
  rw [waiting]
  simp [own]

end

/-- Settles O22: each place of the id in turn; the bytes of the records agree item by item. -/
theorem announcementRequestsAnswer : Obligations.AnnouncementRequestsAnswer := by
  intro s serial id ready yes two phase host active stacked fe fw fl
  have hostBytes : host = Announcement.hostFields := by
    funext r
    obtain ⟨rid, cls, origin, berths, repeats, card, _, _, _, _, _, _, _, _, _, _⟩ := r
    rcases origin with c | m
    · cases cls <;> cases card <;> rfl
    · cases m <;> cases cls <;> cases card <;> rfl
  have activeBytes : active = Announcement.activeFields := by
    funext r
    have phaseByte : r.phase.code = phase r.phase := by cases r.phase <;> rfl
    simp only [Announcement.activeFields, ← hostBytes, phaseByte]
    rfl
  have stackBytes : stacked = Announcement.stackFields := by
    funext r
    have phaseByte : r.phase.code = phase r.phase := by cases r.phase <;> rfl
    simp only [Announcement.stackFields, ← hostBytes, phaseByte]
    rfl
  refine ⟨fun none => ?_, fun elsewhere held => ?_, fun a found own => ⟨fun withdrawn => ?_, fun kept => ⟨?_, ?_, ?_⟩⟩,
    fun elsewhere below above r stack own others => ?_,
    fun elsewhere unstacked ahead behind r waiting own others => ?_, ?_⟩
  · have elsewhere : ∀ a, s.voice.active = some a → a.id ≠ id := fun a found =>
      none a (by simp [Voice.records, found])
    have unheld : ¬ idHeld s.voice id = true := fun h =>
      let ⟨r, mem, eq⟩ := (recordHeld_iff _ _).1 h
      none r mem eq
    exact ⟨exec_annEnd_of_handler ready ((handleAnnEnd_of_other elsewhere).trans (if_neg unheld)),
      exec_annWithdraw_of_handler ready ((handleAnnWithdraw_of_other elsewhere).trans (withdrawOther_of_none
        (fun r mem => none r (by simp [Voice.records, mem])) fun r mem => none r (by simp [Voice.records, mem])))⟩
  · exact exec_annEnd_of_handler ready ((handleAnnEnd_of_other elsewhere).trans (if_pos ((recordHeld_iff _ _).2 held)))
  · exact ⟨exec_annEnd_of_handler ready (handleAnnEnd_of_withdrawn found own withdrawn),
      exec_annWithdraw_of_handler ready (handleAnnWithdraw_of_withdrawn found own withdrawn)⟩
  · exact exec_annWithdraw_of_handler ready (handleAnnWithdraw_of_active found own kept)
  · exact fun c clip playing => exec_annEnd_of_handler ready (handleAnnEnd_of_playing found own kept clip playing)
  · exact fun h => exec_annEnd_of_handler ready (handleAnnEnd_of_live_or_gap found own kept h)
  · refine (exec_annWithdraw_of_handler ready ((handleAnnWithdraw_of_other elsewhere).trans
      (withdrawOther_of_stack stack own others))).trans ?_
    cases r.withdrawn <;> rfl
  · exact exec_annWithdraw_of_handler ready ((handleAnnWithdraw_of_other elsewhere).trans
      (withdrawOther_of_waiting unstacked waiting own others))
  · rw [hostBytes, activeBytes, stackBytes]
    refine (request_replied serial ready rfl (x := handleAnnList s) rfl).trans ?_
    cases found : s.voice.active with
    | none =>
      simp only [handleAnnList, channelFrozen, found]
      rfl
    | some a =>
      simp only [handleAnnList, channelFrozen, found, Option.toList_some, List.map_singleton, List.flatten_singleton]
      rfl

end Sys2Proof.Machine
end

section
/-! The voice channel at a lane frame start (O25): its work reads and writes the voice channel, the settings, the clips and
the notices alone, so it is the same work on the state that the frame start finds. -/

namespace Sys2Proof.Machine

/-! ## What the voice channel's work does not touch -/

/-- A state's voice channel, settings, clips and link unit, with the other blocks of another. -/
def State.voicedOn (s x : State) : State :=
  { x with settings := s.settings, voice := s.voice, clips := s.clips, link := s.link }

section
variable (x s : State)

@[simp] theorem voicedOn_settings : (s.voicedOn x).settings = s.settings := rfl
@[simp] theorem voicedOn_voice : (s.voicedOn x).voice = s.voice := rfl
@[simp] theorem voicedOn_clips : (s.voicedOn x).clips = s.clips := rfl
@[simp] theorem voicedOn_link : (s.voicedOn x).link = s.link := rfl
@[simp] theorem setVoice_voicedOn (f : Voice → Voice) : setVoice f (s.voicedOn x) = (setVoice f s).voicedOn x := rfl
@[simp] theorem queueNotice_voicedOn (n : Notice) : queueNotice n (s.voicedOn x) = (queueNotice n s).voicedOn x := rfl

@[simp] theorem voicedOn_ite {c : Prop} [Decidable c] (s t : State) :
    (if c then s else t).voicedOn x = if c then s.voicedOn x else t.voicedOn x := apply_ite (State.voicedOn · x) c s t

@[simp] theorem startRepeat_voicedOn (r : Announcement) :
    startRepeat r (s.voicedOn x) = (startRepeat r s).voicedOn x := by
  unfold startRepeat
  split <;> rfl

@[simp] theorem endActive_voicedOn (e : EndReason) (r : Announcement) :
    endActive e r (s.voicedOn x) = (endActive e r s).voicedOn x := rfl

@[simp] theorem takeChannel_voicedOn (r : Announcement) : takeChannel r (s.voicedOn x) = (takeChannel r s).voicedOn x := rfl

@[simp] theorem rearm_voicedOn : rearm (s.voicedOn x) = (rearm s).voicedOn x := by
  simp only [rearm, voicedOn_voice, voicedOn_settings, setVoice_voicedOn, voicedOn_ite]
  rfl

@[simp] theorem popped_voicedOn (rest : List Announcement) : popped rest (s.voicedOn x) = (popped rest s).voicedOn x := by
  simp only [popped, setVoice_voicedOn, rearm_voicedOn]

@[simp] theorem dueEnds_voicedOn : dueEnds (s.voicedOn x) = (dueEnds s).voicedOn x := by
  simp only [dueEnds, voicedOn_voice]
  cases s.voice.active with
  | none => rfl
  | some r => simp only [endActive_voicedOn, voicedOn_ite]

@[simp] theorem repeatOver_voicedOn (r : Announcement) : repeatOver r (s.voicedOn x) = (repeatOver r s).voicedOn x := by
  simp only [repeatOver, voicedOn_settings, endActive_voicedOn, setVoice_voicedOn, startRepeat_voicedOn, voicedOn_ite]

@[simp] theorem playing_voicedOn : playing (s.voicedOn x) = playing s := rfl

@[simp] theorem playedClip_voicedOn (r : Announcement) : playedClip r (s.voicedOn x) = (playedClip r s).voicedOn x := by
  simp only [playedClip, voicedOn_voice, repeatOver_voicedOn, setVoice_voicedOn, voicedOn_ite]

@[simp] theorem playedGap_voicedOn (r : Announcement) : playedGap r (s.voicedOn x) = (playedGap r s).voicedOn x := by
  simp only [playedGap, startRepeat_voicedOn, setVoice_voicedOn, voicedOn_ite]

@[simp] theorem playedLive_voicedOn (r : Announcement) : playedLive r (s.voicedOn x) = (playedLive r s).voicedOn x := by
  simp only [playedLive, voicedOn_settings, endActive_voicedOn, setVoice_voicedOn, voicedOn_ite]
  rfl

@[simp] theorem accountFrame_voicedOn : accountFrame (s.voicedOn x) = (accountFrame s).voicedOn x := by
  simp only [accountFrame, playing_voicedOn, playedClip_voicedOn, playedGap_voicedOn, playedLive_voicedOn]
  cases playing s with
  | none => rfl
  | some r =>
    dsimp only
    split <;> rfl

@[simp] theorem reselectFor_voicedOn (n : Nat) : reselectFor n (s.voicedOn x) = (reselectFor n s).voicedOn x := by
  induction n generalizing s with
  | zero => rfl
  | succ n ih =>
    simp only [reselectFor, voicedOn_voice]
    cases pick s.voice.waiting s.voice.stack with
    | idle => rfl
    | head h rest => rfl
    | pop t below =>
      simp only [popped_voicedOn, endNotice, queueNotice_voicedOn, ih, takeChannel_voicedOn]
      cases poppedEnd t <;> rfl

@[simp] theorem reselectIfFreed_voicedOn (had : Bool) :
    reselectIfFreed had (s.voicedOn x) = (reselectIfFreed had s).voicedOn x := by
  simp only [reselectIfFreed, reselect, voicedOn_voice, reselectFor_voicedOn, voicedOn_ite]

@[simp] theorem startActive_voicedOn : startActive (s.voicedOn x) = (startActive s).voicedOn x := by
  simp only [startActive, voicedOn_voice]
  cases s.voice.active with
  | none => rfl
  | some r =>
    simp only [startRepeat_voicedOn, setVoice_voicedOn, voicedOn_ite]
    split
    · split <;> rfl
    · rfl

@[simp] theorem thaw_voicedOn : thaw (s.voicedOn x) = (thaw s).voicedOn x := by
  simp only [thaw, voicedOn_voice]
  cases s.voice.active with
  | none => rfl
  | some r =>
    simp only [startRepeat_voicedOn, voicedOn_ite]
    split
    · rfl
    · split <;> rfl

@[simp] theorem preemptionCheck_voicedOn : preemptionCheck (s.voicedOn x) = (preemptionCheck s).voicedOn x := by
  simp only [preemptionCheck, voicedOn_voice]
  cases s.voice.waiting with
  | nil => rfl
  | cons h rest =>
    cases s.voice.active with
    | none => rfl
    | some a =>
      simp only [voicedOn_settings, setVoice_voicedOn, voicedOn_ite]
      rfl

@[simp] theorem latchStep_voicedOn (latch : Bool) : latchStep latch (s.voicedOn x) = (latchStep latch s).voicedOn x := by
  simp only [latchStep, voicedOn_voice, thaw_voicedOn, preemptionCheck_voicedOn, startActive_voicedOn, voicedOn_ite]

end

/-! ## Steps 1 to 3 of R57 -/

/-- Steps 1 to 3 of R57: due ends, the account of the frame just ended, and reselection of a freed channel. -/
def voiceWork (s : State) : State := reselectIfFreed s.voice.active.isSome (accountFrame (dueEnds s))

theorem voiceFrame_eq (latch : Bool) (set : BerthSet) (s : State) :
    voiceFrame latch set s = coverStep latch set (latchStep latch (voiceWork (setVoice Voice.turnMics s))) := rfl

theorem voiceWork_voicedOn (x s : State) : voiceWork (s.voicedOn x) = (voiceWork s).voicedOn x := by
  simp only [voiceWork, dueEnds_voicedOn, accountFrame_voicedOn, voicedOn_voice, reselectIfFreed_voicedOn]

/-- What the voice channel's work leaves: the microphone samples and the latch read for the last frame. -/
def Voice.inputs (v : Voice) : List Sample × List Sample × List Sample × List Sample × Bool :=
  (v.heldA, v.heldB, v.collectingA, v.collectingB, v.frozenFrame)

section
variable (s : State)

theorem startRepeat_inputs (r : Announcement) : (startRepeat r s).voice.inputs = s.voice.inputs := by
  unfold startRepeat
  split <;> rfl

theorem popped_inputs (rest : List Announcement) : (popped rest s).voice.inputs = s.voice.inputs := by
  rw [popped_eq]
  rfl

theorem dueEnds_inputs : (dueEnds s).voice.inputs = s.voice.inputs := by
  unfold dueEnds
  split
  · rfl
  · split
    · rfl
    · split <;> rfl

theorem repeatOver_inputs (r : Announcement) : (repeatOver r s).voice.inputs = s.voice.inputs := by
  unfold repeatOver
  split
  · rfl
  · split
    · rfl
    · exact startRepeat_inputs s _

theorem playedLive_inputs (r : Announcement) : (playedLive r s).voice.inputs = s.voice.inputs := by
  unfold playedLive
  dsimp only
  split
  · split <;> rfl
  · rfl

theorem accountFrame_inputs : (accountFrame s).voice.inputs = s.voice.inputs := by
  unfold accountFrame
  split
  · rfl
  · split
    · unfold playedClip
      dsimp only
      split
      · exact repeatOver_inputs s _
      · rfl
    · unfold playedGap
      dsimp only
      split
      · exact startRepeat_inputs s _
      · rfl
    · exact playedLive_inputs s _

theorem reselectFor_inputs (n : Nat) : (reselectFor n s).voice.inputs = s.voice.inputs := by
  induction n generalizing s with
  | zero => rfl
  | succ n ih =>
    unfold reselectFor
    split
    · rfl
    · rfl
    · split
      · exact (ih _).trans (popped_inputs s _)
      · exact popped_inputs s _

theorem voiceWork_inputs : (voiceWork s).voice.inputs = s.voice.inputs := by
  unfold voiceWork reselectIfFreed
  split
  · exact (reselectFor_inputs _ _).trans ((accountFrame_inputs _).trans (dueEnds_inputs s))
  · exact (accountFrame_inputs _).trans (dueEnds_inputs s)

theorem startActive_inputs : (startActive s).voice.inputs = s.voice.inputs := by
  unfold startActive
  split
  · rfl
  · split
    · dsimp only
      split
      · exact startRepeat_inputs s _
      · rfl
    · rfl

theorem thaw_inputs : (thaw s).voice.inputs = s.voice.inputs := by
  unfold thaw
  split
  · rfl
  · split
    · rfl
    · split
      · exact startRepeat_inputs s _
      · rfl

theorem preemptionCheck_inputs : (preemptionCheck s).voice.inputs = s.voice.inputs := by
  unfold preemptionCheck
  split
  · rfl
  · dsimp only
    split
    · rfl
    · split <;> rfl

theorem latchStep_inputs (latch : Bool) : (latchStep latch s).voice.inputs = s.voice.inputs := by
  unfold latchStep
  split
  · rfl
  · split
    · exact (startActive_inputs _).trans ((preemptionCheck_inputs _).trans (thaw_inputs s))
    · exact startActive_inputs s

end

/-! ### The account of the frame just ended -/

section
variable {s : State} {r : Announcement}

theorem voiceWork_idle (idle : s.voice.active = none) : voiceWork s = s := by
  have none : dueEnds s = s := by simp only [dueEnds, idle]
  have silent : accountFrame s = s := by simp only [accountFrame, playing_none (.inl idle)]
  rw [voiceWork, none, silent, idle]
  rfl

theorem voiceWork_ends {reason : EndReason} (active : s.voice.active = some r) (ends : dueEnds s = endActive reason r s) :
    voiceWork s = endedBy reason r s := by
  have silent : accountFrame (endActive reason r s) = endActive reason r s := by
    simp only [accountFrame, playing_none (s := endActive reason r s) (.inl rfl)]
  rw [voiceWork, ends, silent, active]
  rfl

variable (active : s.voice.active = some r) (kept : r.withdrawn = false) (open_ : r.endDue = false)
include active kept open_

theorem voiceWork_silent (h : r.awaitingStart = true ∨ s.voice.frozenFrame = true) : voiceWork s = s := by
  have silent : accountFrame s = s := by
    simp only [accountFrame, playing_none (s := s) (.inr (h.symm.imp_right fun awaits => ⟨r, active, awaits⟩))]
  rw [voiceWork, dueEnds_none active kept open_, silent]
  exact reselectIfFreed_active _ active

theorem voiceWork_accounts : voiceWork s = reselectIfFreed true (accountFrame s) := by
  rw [voiceWork, dueEnds_none active kept open_, active]
  rfl

/-- The account leaves the record in the channel. -/
theorem voiceWork_goesOn {r' : Announcement} {readers : List Reader}
    (h : accountFrame s = setVoice (fun v => { v with active := some r', readers := readers }) s) :
    voiceWork s = setVoice (fun v => { v with active := some r', readers := readers }) s := by
  rw [voiceWork_accounts active kept open_, h]
  exact reselectIfFreed_active true rfl

theorem voiceWork_done {reason : EndReason} (h : accountFrame s = endActive reason r s) :
    voiceWork s = endedBy reason r s := by
  rw [voiceWork_accounts active kept open_, h]
  rfl

end

section
variable {s : State} {r : Announcement} (active : s.voice.active = some r) (started : r.awaitingStart = false)
  (running : s.voice.frozenFrame = false)
include active started running

section
variable {c : ClipNo} (clip : r.origin = .clip c) (phase : r.phase = .playing)
include clip phase

theorem accountFrame_playing : accountFrame s = playedClip r s := by
  simp only [accountFrame, playing_some active started running, clip, phase]

theorem accountFrame_more (more : r.framesPlayed + 1 < repeatLength s.voice.readers) : accountFrame s =
    setVoice (fun v => { v with
      active := some { r with framesPlayed := r.framesPlayed + 1 }, readers := advanceReaders s.voice.readers }) s :=
  (accountFrame_playing active started running clip phase).trans (if_neg (Nat.not_le.2 more))

theorem accountFrame_over (ended : repeatLength s.voice.readers ≤ r.framesPlayed + 1) :
    accountFrame s = repeatOver { r with framesPlayed := r.framesPlayed + 1 } s :=
  (accountFrame_playing active started running clip phase).trans (if_pos ended)

end

section
variable {c : ClipNo} (clip : r.origin = .clip c) (phase : r.phase = .gap)
include clip phase

theorem accountFrame_gap : accountFrame s = playedGap r s := by
  simp only [accountFrame, playing_some active started running, clip, phase]

theorem accountFrame_gap_more (more : 1 < r.gapLeft) : accountFrame s = setVoice (fun v => { v with
    active := some { r with gapLeft := r.gapLeft - 1 }, readers := s.voice.readers }) s :=
  (accountFrame_gap active started running clip phase).trans (if_neg (by simp only; omega))

theorem accountFrame_gap_over (ended : r.gapLeft ≤ 1) : accountFrame s = setVoice (fun v => { v with
    active := some { r with phase := .playing, framesPlayed := 0, gapLeft := 0 }, readers := newReaders s.clips c }) s := by
  have ends : r.gapLeft - 1 = 0 := by omega
  have again := startRepeat_clip (s := s) (a := { r with gapLeft := r.gapLeft - 1 }) clip
  refine (accountFrame_gap active started running clip phase).trans ((if_pos ends).trans (again.trans ?_))
  rw [ends]

end

section
variable {m : Mic} (live : r.origin = .mic m)
include live

theorem accountFrame_live : accountFrame s = playedLive r s := by
  simp only [accountFrame, playing_some active started running, live]

theorem accountFrame_live_frame (more : r.liveFrames < 999) : accountFrame s = setVoice (fun v => { v with
    active := some { r with liveFrames := r.liveFrames + 1 }, readers := s.voice.readers }) s :=
  (accountFrame_live active started running live).trans (if_neg (by omega))

theorem accountFrame_live_second (full : 999 ≤ r.liveFrames) (more : r.liveSeconds + 1 < s.settings.liveLimit) :
    accountFrame s = setVoice (fun v => { v with
      active := some { r with liveFrames := 0, liveSeconds := r.liveSeconds + 1 }, readers := s.voice.readers }) s :=
  (accountFrame_live active started running live).trans ((if_pos (by omega)).trans (if_neg (Nat.not_le.2 more)))

theorem accountFrame_live_limit (full : 999 ≤ r.liveFrames) (limit : s.settings.liveLimit ≤ r.liveSeconds + 1) :
    accountFrame s = endActive .timeout r s :=
  (accountFrame_live active started running live).trans ((if_pos (by omega)).trans (if_pos limit))

end

end

/-! ## Steps 4 and 5 of R57 -/

theorem startActive_started {s : State} {r : Announcement} (h : (startActive s).voice.active = some r) :
    r.awaitingStart = false := by
  unfold startActive at h
  split at h
  · rename_i idle
    exact absurd (idle.symm.trans h) (by simp)
  · rename_i a active
    split at h
    · dsimp only at h
      split at h
      · unfold startRepeat at h
        split at h <;> exact (Option.some.inj h) ▸ rfl
      · exact (Option.some.inj h) ▸ rfl
    · rename_i started
      obtain rfl := Option.some.inj (active.symm.trans h)
      simpa using started

theorem latchStep_started {s : State} {r : Announcement} (h : (latchStep false s).voice.active = some r) :
    r.awaitingStart = false := by
  unfold latchStep at h
  simp only [Bool.false_eq_true, if_false] at h
  split at h <;> exact startActive_started h

theorem longest_le {rs : List Reader} {n : Nat} : longest rs ≤ n ↔ ∀ x ∈ rs, x.samples ≤ n := by
  have fold (rs : List Reader) (m : Nat) :
      rs.foldl (fun m r => max m r.samples) m ≤ n ↔ m ≤ n ∧ ∀ x ∈ rs, x.samples ≤ n := by
    induction rs generalizing m with
    | nil => simp
    | cons x rs ih =>
      rw [List.foldl_cons, ih, List.forall_mem_cons, max_le_iff, and_assoc]
  rw [longest, fold]
  simp

theorem mem_newReaders (k : Clips) (c : ClipNo) (x : Reader) : x ∈ newReaders k c ↔
    (k.variant c x.variant).state = .ready ∧
      x = { clip := c, variant := x.variant, samples := (k.variant c x.variant).declared, position := 0 } := by
  rw [newReaders, List.mem_map]
  constructor
  · rintro ⟨v, mem, rfl⟩
    exact ⟨beq_iff_eq.1 (List.mem_filter.1 mem).2, rfl⟩
  · rintro ⟨ready, eq⟩
    exact ⟨x.variant, List.mem_filter.2 ⟨mem_variants _, beq_iff_eq.2 ready⟩, eq.symm⟩

/-! ## The whole of the frame start -/

theorem inSet_without (set other : BerthSet) (b : Berth) :
    inSet (set &&& ~~~other) b = (inSet set b && !inSet other b) := by
  simp [inSet]

/-- The coverage that step 5 fixes, berth by berth (R58). -/
theorem coveredBy_coverageFor {latch : Bool} {set : BerthSet} {v w : Voice} (fixed : w.coverage = coverageFor latch set v)
    (started : latch = false → ∀ r, v.active = some r → r.awaitingStart = false) (b : Berth) :
    coveredBy w b = if latch then none else v.active.bind fun r =>
      if inSet r.berths b && !inSet set b then
        some { berths := r.berths &&& ~~~set, id := r.id, cls := r.cls, card := r.card } else none := by
  cases latch with
  | true => simp [coveredBy, fixed, coverageFor]
  | false =>
    cases active : v.active with
    | none => simp [coveredBy, fixed, coverageFor, active]
    | some r => simp [coveredBy, fixed, coverageFor, active, started rfl r active, inSet_without]

section
variable (line : Line) (strobe : Bool) (s : State)

/-- The voice channel as its work begins, with the notices that the blocks before it have queued. -/
def voiceBegins : State := { s with link := (beforeVoice line strobe s).link, voice := s.voice.turnMics }

theorem voiceBegins_eq : voiceBegins line strobe s = (setVoice Voice.turnMics (beforeVoice line strobe s)).voicedOn s := by
  obtain ⟨-, -, -, settings, voice, clips, -⟩ := beforeVoice_reads line strobe s
  simp only [voiceBegins, State.voicedOn, setVoice, settings, voice, clips]

/-- The voice channel after steps 1 to 4 of R57. -/
def voiceEnds : State := latchStep (frameBegun line strobe s).emergency.latch (voiceWork (voiceBegins line strobe s))

theorem voiceFrame_beforeVoice :
    voiceFrame (beforeVoice line strobe s).emergency.latch (beforeVoice line strobe s).test.frameSet
      (beforeVoice line strobe s) = coverStep (frameBegun line strobe s).emergency.latch
        (frameBegun line strobe s).test.frameSet (latchStep (frameBegun line strobe s).emergency.latch
          (voiceWork (setVoice Voice.turnMics (beforeVoice line strobe s)))) := by
  rw [voiceFrame_eq, (beforeVoice_reads line strobe s).1, beforeVoice_frameSet]

theorem voiceEnds_eq : voiceEnds line strobe s = (latchStep (frameBegun line strobe s).emergency.latch
    (voiceWork (setVoice Voice.turnMics (beforeVoice line strobe s)))).voicedOn s := by
  rw [voiceEnds, voiceBegins_eq, voiceWork_voicedOn, latchStep_voicedOn]

theorem frameBegun_voice_ends : (frameBegun line strobe s).voice = { (voiceEnds line strobe s).voice with
    coverage := coverageFor (frameBegun line strobe s).emergency.latch (frameBegun line strobe s).test.frameSet
      (voiceEnds line strobe s).voice,
    frozenFrame := (frameBegun line strobe s).emergency.latch } := by
  have voice : (frameBegun line strobe s).voice = _ :=
    (frameBegun_voice line strobe s).trans (congrArg State.voice (voiceFrame_beforeVoice line strobe s))
  rw [voiceEnds_eq]
  exact voice

theorem beforeMixer_link : (beforeMixer line strobe s).link = (voiceEnds line strobe s).link := by
  have routed : (beforeMixer line strobe s).link = (voiceFrame (beforeVoice line strobe s).emergency.latch
      (beforeVoice line strobe s).test.frameSet (beforeVoice line strobe s)).link := by
    simp [beforeMixer, chimeFrame]
  rw [routed, voiceFrame_beforeVoice, voiceEnds_eq]
  rfl

theorem beforeVoice_queues :
    Queues (fun n => n.OfTimer ∨ n.OfProgrammes ∨ n.OfEmergency ∨ n.OfLanes ∨ n.OfClock) s (beforeVoice line strobe s) :=
  ((beforeClock_queues line strobe s).mono fun _ h => h.imp_right (Or.imp_right (Or.imp_right .inl))).trans
    ((clockFrame_queues _).mono fun _ h => .inr (.inr (.inr (.inr h))))

theorem not_before_voice (n : Notice) (voice : n.OfVoice) :
    ¬ (n.OfTimer ∨ n.OfProgrammes ∨ n.OfEmergency ∨ n.OfLanes ∨ n.OfClock) := by
  cases n with
  | annStarted | annEnded | stackLimit =>
    simp [Notice.OfTimer, Notice.OfProgrammes, Notice.OfProgramme, Notice.OfEmergency, Notice.OfLanes, Notice.OfBerth, Notice.OfLane,
      Notice.OfClock]
  | _ => exact absurd voice id

end

theorem padFrame_at (xs : List Sample) {k : Nat} (hk : k < 48) : (padFrame xs)[k]? = some (xs.getD k 0) := by
  rw [padFrame, List.getElem?_map, List.getElem?_range hk]
  rfl

/-- Settles O25: the five steps of R57 on the state as the voice channel's work begins. -/
theorem frameStartRunsVoice : Obligations.FrameStartRunsVoice := by
  refine ⟨fun s line => ⟨rfl, fun strobe => ?_⟩, mem_newReaders, fun rs => ⟨fun x mem => ?_, fun n enough => ?_⟩⟩
  · intro t
    have voice : t.voice = _ := frameBegun_voice_ends line strobe s
    have inputs : (voiceEnds line strobe s).voice.inputs = s.voice.turnMics.inputs :=
      (latchStep_inputs _ _).trans (voiceWork_inputs _)
    simp only [Voice.inputs, Voice.turnMics, Prod.mk.injEq] at inputs
    obtain ⟨heldA, heldB, collectingA, collectingB, -⟩ := inputs
    have started : t.emergency.latch = false → ∀ r, (voiceEnds line strobe s).voice.active = some r →
        r.awaitingStart = false := fun clear r active => by
      rw [voiceEnds, show (frameBegun line strobe s).emergency.latch = false from clear] at active
      exact latchStep_started active
    have covered := coveredBy_coverageFor (congrArg Voice.coverage voice) started
    have active : t.voice.active = (voiceEnds line strobe s).voice.active := by rw [voice]
    refine ⟨fun k hk => ⟨?_, ?_⟩, ?_, ?_, ?_, ?_, congrArg Voice.frozenFrame voice, ?_, fun b => ?_, fun b c found => ?_,
      fun latched frozen a held kept open_ => ?_, ?_⟩
    · rw [voice]
      exact heldA ▸ padFrame_at _ hk
    · rw [voice]
      exact heldB ▸ padFrame_at _ hk
    · rw [voice]
      show (voiceEnds line strobe s).voice.heldA.length = 48
      rw [heldA, padFrame, List.length_map, List.length_range]
    · rw [voice]
      show (voiceEnds line strobe s).voice.heldB.length = 48
      rw [heldB, padFrame, List.length_map, List.length_range]
    · rw [voice]
      exact collectingA
    · rw [voice]
      exact collectingB
    · rw [active]
      exact started
    · rw [covered b, active]
      cases t.emergency.latch with
      | true => rfl
      | false =>
        cases (voiceEnds line strobe s).voice.active with
        | none => rfl
        | some r =>
          show (if (inSet r.berths b && !inSet t.test.frameSet b) = true then _ else none).isSome =
            (!inSet t.test.frameSet b && inSet r.berths b)
          cases inSet r.berths b <;> cases inSet t.test.frameSet b <;> rfl
    · rw [covered b] at found
      split at found
      · cases found
      · obtain ⟨r, holds, inside⟩ := Option.bind_eq_some_iff.1 found
        split at inside
        · exact ⟨r, active.trans holds, Option.some.inj inside ▸ ⟨rfl, rfl, rfl⟩⟩
        · cases inside
    · have still : voiceEnds line strobe s = voiceBegins line strobe s := by
        rw [voiceEnds, voiceWork_silent (s := voiceBegins line strobe s) held kept open_ (.inr frozen)]
        exact if_pos latched
      rw [voice, still]
      exact ⟨held, rfl, rfl, rfl⟩
    · obtain ⟨notices, dropped⟩ := frameBegun_notices line strobe s
      have queued := beforeVoice_queues line strobe s
      have frozen : (voiceWork (voiceBegins line strobe s)).voice.frozenFrame = s.voice.frozenFrame :=
        congrArg (fun x => x.2.2.2.2) (voiceWork_inputs (voiceBegins line strobe s))
      refine ⟨(beforeVoice line strobe s).link, voiceWork (voiceBegins line strobe s), voiceEnds line strobe s, ?_⟩
      intro held begins ended goesOn restarted thawed starts
      have playing (r : Announcement) (x : State) (phase : r.phase = .playing) : restarted r x = startRepeat r x := by
        cases origin : r.origin <;> simp only [restarted, startRepeat, origin, phase]
      have inGap (r : Announcement) (x : State) (phase : r.phase = .gap) :
          restarted r x = setVoice (fun v => { v with active := some r }) x := by
        cases origin : r.origin <;> simp only [restarted, origin, phase]
      have thaws : thawed = thaw := by
        funext x
        cases active : x.voice.active with
        | none => simp only [thawed, thaw, active]
        | some r =>
          cases phase : r.phase with
          | playing => simp only [thawed, thaw, active, phase, playing r x phase]
          | gap =>
            have same : setVoice (fun v => { v with active := some r }) x = x := by
              rw [← active]
              rfl
            simp only [thawed, thaw, active, phase, inGap r x phase, same]
      have starting : starts = startActive := by
        funext x
        cases active : x.voice.active with
        | none => simp only [starts, startActive, active]
        | some r =>
          cases phase : r.phase with
          | playing =>
            simp only [starts, startActive, active, playing { r with awaitingStart := false, played := true } x phase]
            simp only [phase]
          | gap =>
            simp only [starts, startActive, active, inGap { r with awaitingStart := false, played := true } x phase]
            simp only [phase]
      refine ⟨queued.count_le, fun id resumed => queued.keepsCount (not_before_voice _ trivial),
        fun id reason => queued.keepsCount (not_before_voice _ trivial),
        fun idle => voiceWork_idle (s := begins) idle, fun r holds => ⟨fun withdrawn =>
          voiceWork_ends (s := begins) holds (dueEnds_withdrawn (s := begins) holds withdrawn), fun kept due =>
          voiceWork_ends (s := begins) holds (dueEnds_done (s := begins) holds kept due), fun kept open_ =>
          ⟨voiceWork_silent (s := begins) holds kept open_, fun began running => ⟨fun c clip phase => ?_,
            fun c clip phase => ⟨fun more => ?_, fun last => ?_⟩, fun mic live => ⟨fun more => ?_, fun full more => ?_,
            fun full limit => ?_⟩⟩⟩⟩, ?_, ?_, ?_, ?_⟩
      · have repeatEnds (last : repeatLength s.voice.readers ≤ r.framesPlayed + 1) :
            accountFrame begins = repeatOver { r with framesPlayed := r.framesPlayed + 1 } begins :=
          accountFrame_over (s := begins) holds began running clip phase last
        refine ⟨fun more => ?_, fun last => ⟨fun final => ?_, fun more gap => ?_, fun more none => ?_⟩⟩
        · exact voiceWork_goesOn (s := begins) holds kept open_
            (accountFrame_more (s := begins) holds began running clip phase more)
        · exact voiceWork_done (s := begins) holds kept open_ ((repeatEnds last).trans
            (repeatOver_last (a := { r with framesPlayed := r.framesPlayed + 1 }) final))
        · exact voiceWork_goesOn (s := begins) holds kept open_ ((repeatEnds last).trans
            (repeatOver_gap (a := { r with framesPlayed := r.framesPlayed + 1 }) more gap))
        · refine voiceWork_goesOn (s := begins) holds kept open_ ((repeatEnds last).trans
            ((repeatOver_again (s := begins) (a := { r with framesPlayed := r.framesPlayed + 1 }) more none).trans
            ((startRepeat_clip (s := begins) (a := { r with
              framesPlayed := r.framesPlayed + 1, currentRepeat := r.currentRepeat + 1 }) clip).trans ?_)))
          rw [phase]
      · exact voiceWork_goesOn (s := begins) holds kept open_
          (accountFrame_gap_more (s := begins) holds began running clip phase more)
      · exact voiceWork_goesOn (s := begins) holds kept open_
          (accountFrame_gap_over (s := begins) holds began running clip phase last)
      · exact voiceWork_goesOn (s := begins) holds kept open_
          (accountFrame_live_frame (s := begins) holds began running live more)
      · exact voiceWork_goesOn (s := begins) holds kept open_
          (accountFrame_live_second (s := begins) holds began running live full more)
      · exact voiceWork_done (s := begins) holds kept open_
          (accountFrame_live_limit (s := begins) holds began running live full limit)
      · rw [thaws, starting, ← frozen]
        rfl
      · rw [voice]
      · rw [notices, beforeMixer_link]
      · rw [dropped, beforeMixer_link]
  · have := longest_le.1 (Nat.le_refl (longest rs)) x mem
    unfold repeatLength
    omega
  · have := longest_le.2 enough
    unfold repeatLength
    omega

end Sys2Proof.Machine
end

section
/-! The berths' presence, status fields and upstream slots (O44, O45). -/

namespace Sys2Proof.Machine

/-! ## Reports and accepted fields -/

/-- What a change leaves of a berth that has become y: with a report due, the flag is set and one BERTH_CHANGE notice is
queued unless the flag was set already (R159). -/
def told (b : Berth) (y : BerthLink) (report : Bool) (s : State) : State :=
  if report = true ∧ y.changePending = false then
    queueNotice (.berthChange b y.present y.headphone.accepted y.screen.accepted)
      (setBerth b (fun _ => { y with changePending := true }) s)
  else setBerth b (fun _ => y) s

section
variable {b : Berth} {s : State}

theorem setBerth_setBerth (f g : BerthLink → BerthLink) (s : State) :
    setBerth b f (setBerth b g s) = setBerth b (f ∘ g) s :=
  congrArg (fun berths => { s with berths := berths }) (amend_amend s.berths b g f)

theorem setBerth_berth (f : BerthLink → BerthLink) (s : State) : (setBerth b f s).berths[b] = f s.berths[b] :=
  amend_get_same s.berths b f

theorem setBerth_congr {f g : BerthLink → BerthLink} (h : f s.berths[b] = g s.berths[b]) :
    setBerth b f s = setBerth b g s :=
  congrArg (fun berths => { s with berths := berths }) (amend_congr s.berths b h)

theorem reportChange_setBerth (y : BerthLink) (s : State) :
    reportChange b (setBerth b (fun _ => y) s) = told b y true s := by
  unfold reportChange told
  dsimp only
  rw [setBerth_berth]
  cases pending : y.changePending with
  | true => rfl
  | false =>
    rw [setBerth_setBerth]
    rfl

theorem afterAccept_setBerth (y : BerthLink) (report press : Bool) (s : State) :
    afterAccept b report press (setBerth b (fun _ => y) s) =
      if press then callPress b (told b y report s) else told b y report s := by
  unfold afterAccept
  cases report with
  | true =>
    rw [← reportChange_setBerth]
    rfl
  | false => rfl

theorem settle_eq {α : Type} (d : Debounced α) :
    d.settle = if d.run = 3 then { d with accepted := d.candidate.getD d.accepted } else d := by
  unfold Debounced.settle Debounced.accept
  cases d with
  | mk accepted candidate run => cases candidate <;> simp

/-- A berth that becomes PRESENT (R157). -/
def BerthLink.entered (x : BerthLink) : BerthLink := BerthLink.settle { x with present := true }

theorem makePresent_eq (s : State) : makePresent b s =
    if pressedNow s.berths[b] s.berths[b].entered then callPress b (told b s.berths[b].entered true s)
    else told b s.berths[b].entered true s :=
  afterAccept_setBerth s.berths[b].entered true (pressedNow s.berths[b] s.berths[b].entered) s

theorem makePresent_setBerth (f : BerthLink → BerthLink) (s : State) : makePresent b (setBerth b f s) =
    if pressedNow (f s.berths[b]) (f s.berths[b]).entered then callPress b (told b (f s.berths[b]).entered true s)
    else told b (f s.berths[b]).entered true s := by
  have replaced (y : BerthLink) : told b y true (setBerth b f s) = told b y true s := by
    unfold told
    rw [setBerth_setBerth, setBerth_setBerth]
    rfl
  rw [makePresent_eq, setBerth_berth, replaced]

theorem makeAbsent_eq (s : State) : makeAbsent b s = told b s.berths[b].goAbsent s.berths[b].present s := by
  have same : setBerth b BerthLink.goAbsent s = setBerth b (fun _ => s.berths[b].goAbsent) s := setBerth_congr rfl
  unfold makeAbsent
  dsimp only
  rw [same]
  cases present : s.berths[b].present with
  | true => exact (if_pos rfl).trans (reportChange_setBerth _ s)
  | false => rfl

theorem fieldAcceptedEvent_takes {f : StatusField} {y : BerthLink} {report press : Bool}
    (present : s.berths[b].present = true) (waits : s.berths[b].fieldWaits f = true)
    (taken : s.berths[b].acceptField f = y) (reports : reportable s.berths[b] y = report)
    (presses : pressedNow s.berths[b] y = press) : fieldAcceptedEvent b f s =
      if press then callPress b (told b y report s) else told b y report s := by
  rw [← afterAccept_setBerth, ← reports, ← presses, ← taken]
  exact if_pos (Bool.and_eq_true_iff.2 ⟨present, waits⟩)

theorem told_unreported (y : BerthLink) (s : State) : told b y false s = setBerth b (fun _ => y) s :=
  if_neg fun h => Bool.false_ne_true h.1

theorem reportable_self (x : BerthLink) : reportable x x = false := by
  rw [reportable, bne_self_eq_false, bne_self_eq_false]
  rfl

theorem pressedNow_self (x : BerthLink) : pressedNow x x = false := by
  rw [pressedNow, Bool.not_and_self]

theorem fieldAcceptedEvent_still {f : StatusField} (still : s.berths[b].fieldWaits f = false) :
    fieldAcceptedEvent b f s = s :=
  if_neg fun h => Bool.false_ne_true (still.symm.trans (Bool.and_eq_true_iff.1 h).2)

theorem fieldAcceptedEvent_absent (f : StatusField) (absent : s.berths[b].present = false) :
    fieldAcceptedEvent b f s = s :=
  if_neg fun h => Bool.false_ne_true (absent.symm.trans (Bool.and_eq_true_iff.1 h).1)

theorem waits_of_candidate {α : Type} [DecidableEq α] {d : Debounced α} {v : α} (candidate : d.candidate = some v)
    (new : v ≠ d.accepted) : (d.candidate.isSome && d.candidate != some d.accepted) = true := by
  simp [candidate, new]

theorem not_waits {α : Type} [DecidableEq α] {d : Debounced α} (h : d.candidate = none ∨ d.candidate = some d.accepted) :
    (d.candidate.isSome && d.candidate != some d.accepted) = false := by
  rcases h with h | h <;> simp [h]

theorem accept_of_candidate {α : Type} {d : Debounced α} {v : α} (candidate : d.candidate = some v) :
    ({ d with run := 3 } : Debounced α).accept = { accepted := v, candidate := some v, run := 3 } := by
  simp only [Debounced.accept, candidate]

end

theorem exec_berthPresent {b : Berth} {s t : State} (quiet : LinkQuiet s) (h : berthPresentEvent b s = t) :
    exec (.berthPresent b) s = .next t.sent :=
  h ▸ goOn_sent quiet (berthPresentEvent_queues b s).buffer

theorem exec_berthAbsent {b : Berth} {s t : State} (quiet : LinkQuiet s) (h : berthAbsentEvent b s = t) :
    exec (.berthAbsent b) s = .next t.sent :=
  h ▸ goOn_sent quiet (berthAbsentEvent_queues b s).buffer

theorem exec_statusFieldAccepted {b : Berth} {f : StatusField} {s t : State} (quiet : LinkQuiet s)
    (h : fieldAcceptedEvent b f s = t) : exec (.statusFieldAccepted b f) s = .next t.sent :=
  h ▸ goOn_sent quiet (fieldAcceptedEvent_queues b f s).buffer

/-- Settles O45: each event is one change of the berth's record, told and pressed as `afterAccept` says. -/
theorem presenceEventsAct : Obligations.PresenceEventsAct := by
  intro s b quiet x reported
  have report (y : BerthLink) (same : y.changePending = x.changePending) : told b y true s = reported y := by
    unfold told
    rw [same]
    cases pending : x.changePending with
    | true => exact (if_pos pending).symm
    | false => exact (if_neg (by simp [pending])).symm
  refine ⟨fun present => exec_berthPresent quiet (if_neg fun h => ?_), fun down => exec_berthPresent quiet (if_neg fun h => down h.1),
    fun absent up => ?_, fun absent => exec_berthAbsent quiet (if_neg fun h => Bool.false_ne_true (absent.symm.trans h)), fun present => ?_,
    fun field absent => exec_statusFieldAccepted quiet (fieldAcceptedEvent_absent field absent),
    fun still => exec_statusFieldAccepted quiet (fieldAcceptedEvent_still (not_waits still)),
    fun still => exec_statusFieldAccepted quiet (fieldAcceptedEvent_still (not_waits still)),
    fun still => exec_statusFieldAccepted quiet (fieldAcceptedEvent_still (not_waits still)),
    fun still => exec_statusFieldAccepted quiet (fieldAcceptedEvent_still (not_waits still)), ?_, ?_, ?_, ?_⟩
  · exact absurd (h.2.symm.trans present) Bool.false_ne_true
  · intro taken y
    have settled : BerthLink.entered { x with validRun := 3, invalidRun := 0 } = y := by
      simp only [BerthLink.entered, BerthLink.settle, settle_eq]
      rfl
    have press : pressedNow { x with validRun := 3, invalidRun := 0 } y = true ↔
        x.call.accepted = false ∧ y.call.accepted = true := by
      rw [pressedNow, Bool.and_eq_true, Bool.not_eq_true']
    refine exec_berthPresent quiet ((if_pos ⟨up, absent⟩).trans ((makePresent_setBerth _ s).trans ?_))
    rw [show BerthLink.entered { s.berths[b] with validRun := 3, invalidRun := 0 } = y from settled, report y rfl]
    exact if_congr press rfl rfl
  · refine exec_berthAbsent quiet ((if_pos present).trans ((makeAbsent_eq s).trans ?_))
    rw [show s.berths[b].present = true from present]
    exact report x.goAbsent rfl
  · intro present v candidate new
    have taken : x.acceptField .knob = { x with knob := { accepted := v, candidate := some v, run := 3 } } :=
      congrArg (fun knob => { x with knob := knob }) (accept_of_candidate candidate)
    refine exec_statusFieldAccepted quiet ((fieldAcceptedEvent_takes (f := .knob) present
      (waits_of_candidate candidate new) taken (reportable_self x) (pressedNow_self x)).trans ?_)
    exact (told_unreported _ s).trans (setBerth_congr rfl)
  · intro present v candidate new
    have taken : x.acceptField .headphone = { x with headphone := { accepted := v, candidate := some v, run := 3 } } :=
      congrArg (fun headphone => { x with headphone := headphone }) (accept_of_candidate candidate)
    have changed : reportable x { x with headphone := { accepted := v, candidate := some v, run := 3 } } = true :=
      Bool.or_eq_true_iff.2 (.inl (bne_iff_ne.2 new.symm))
    exact exec_statusFieldAccepted quiet ((fieldAcceptedEvent_takes (f := .headphone) present
      (waits_of_candidate candidate new) taken changed (pressedNow_self x)).trans (report _ rfl))
  · intro present v candidate new
    have taken : x.acceptField .screen = { x with screen := { accepted := v, candidate := some v, run := 3 } } :=
      congrArg (fun screen => { x with screen := screen }) (accept_of_candidate candidate)
    have changed : reportable x { x with screen := { accepted := v, candidate := some v, run := 3 } } = true :=
      Bool.or_eq_true_iff.2 (.inr (bne_iff_ne.2 new.symm))
    exact exec_statusFieldAccepted quiet ((fieldAcceptedEvent_takes (f := .screen) present
      (waits_of_candidate candidate new) taken changed (pressedNow_self x)).trans (report _ rfl))
  · intro present candidate pressed
    have new : false ≠ x.call.accepted := fun h => Bool.false_ne_true (h.trans pressed)
    have taken : x.acceptField .call = { x with call := { accepted := false, candidate := some false, run := 3 } } :=
      congrArg (fun call => { x with call := call }) (accept_of_candidate candidate)
    have released : pressedNow x { x with call := { accepted := false, candidate := some false, run := 3 } } = false :=
      Bool.and_false _
    refine exec_statusFieldAccepted quiet ((fieldAcceptedEvent_takes (f := .call) present
      (waits_of_candidate candidate new) taken (reportable_self x) released).trans ?_)
    exact (told_unreported _ s).trans (setBerth_congr rfl)

/-! ## Upstream slots -/

section
variable {b : Berth} {s : State}

theorem told_setBerth (y : BerthLink) (report : Bool) (f : BerthLink → BerthLink) (s : State) :
    told b y report (setBerth b f s) = told b y report s := by
  unfold told
  rw [setBerth_setBerth, setBerth_setBerth]
  rfl

/-- What a change of one berth's record leads to: the report, then the call press (R159, R160). -/
def changed (b : Berth) (y : BerthLink) (report press : Bool) (s : State) : State :=
  if press then callPress b (told b y report s) else told b y report s

theorem changed_setBerth (y : BerthLink) (report press : Bool) (f : BerthLink → BerthLink) (s : State) :
    changed b y report press (setBerth b f s) = changed b y report press s := by
  unfold changed
  rw [told_setBerth]

theorem changed_unreported (y : BerthLink) (s : State) : changed b y false false s = setBerth b (fun _ => y) s :=
  told_unreported y s

/-- A valid slot of a berth that is PRESENT with it, or was (R157, R158). -/
theorem validSlot_present {status : Byte} {z : BerthLink} (heard : (s.berths[b].debounce status).countValid = z)
    (present : z.present = true ∨ z.validRun = 3) : validSlot b status s =
      changed b z.entered (!z.present || reportable z z.entered) (pressedNow z z.entered) s := by
  subst heard
  unfold validSlot
  dsimp only
  rw [setBerth_berth]
  cases was : ((s.berths[b].debounce status).countValid).present with
  | true =>
    have entered : ((s.berths[b].debounce status).countValid).entered = ((s.berths[b].debounce status).countValid).settle := by
      rw [BerthLink.entered, ← was]
    rw [entered]
    refine (if_pos rfl).trans ((afterAccept_setBerth _ _ _ _).trans ?_)
    exact changed_setBerth _ _ _ _ s
  | false =>
    have third := present.resolve_left (by rw [was]; exact Bool.false_ne_true)
    refine (if_neg Bool.false_ne_true).trans ((if_pos third).trans ((makePresent_setBerth _ s).trans ?_))
    rfl

theorem validSlot_absent {status : Byte} {z : BerthLink} (heard : (s.berths[b].debounce status).countValid = z)
    (absent : z.present = false) (short : z.validRun ≠ 3) : validSlot b status s = setBerth b (fun _ => z) s := by
  subst heard
  unfold validSlot
  dsimp only
  rw [setBerth_berth, absent]
  exact (if_neg Bool.false_ne_true).trans ((if_neg short).trans (setBerth_congr rfl))

theorem invalidSlot_eq {z : BerthLink} (missed : s.berths[b].countInvalid = z) : invalidSlot b s =
    if z.present = true ∧ z.invalidRun = 8 then changed b z.goAbsent true false s else setBerth b (fun _ => z) s := by
  subst missed
  unfold invalidSlot
  dsimp only
  rw [setBerth_berth]
  by_cases eighth : s.berths[b].countInvalid.present = true ∧ s.berths[b].countInvalid.invalidRun = 8
  · rw [if_pos (Bool.and_eq_true_iff.2 ⟨eighth.1, beq_iff_eq.2 eighth.2⟩), if_pos eighth, makeAbsent_eq, setBerth_berth,
      eighth.1]
    exact told_setBerth _ _ _ s
  · rw [if_neg fun h => eighth ((Bool.and_eq_true_iff.1 h).imp_right beq_iff_eq.1), if_neg eighth]
    exact setBerth_congr rfl

/-- A slot's CRC is correct and its echo is the frame number less 2 (R153, R156). -/
def SlotValid (slot : UpSlot) (s : State) : Prop := slotCrcGood slot = true ∧ echoGood s slot.echo = true

/-- What a slot raises: SLOT_ERR for a wrong CRC, then TEST_ERR of a tested berth (R156, R166). -/
def slotCounted (b : Berth) (slot : UpSlot) (errors : Nat) (s : State) : State :=
  testErrors b errors (if slotCrcGood slot then s else raise (.slotErr b) 1 s)

theorem testErrors_setBerth (n : Nat) (f : BerthLink → BerthLink) (s : State) :
    testErrors b n (setBerth b f s) = setBerth b f (testErrors b n s) := by
  unfold testErrors
  exact (apply_ite (setBerth b f) (checked s b = true) (raise (.testErr b) n s) s).symm

theorem slotArrives_closed {slot : UpSlot} (h : s.lanes[laneOf b].state ≠ .up ∨ s.berths[b].slotJudged = true) :
    slotArrives b slot s = s := if_pos h

section
variable {slot : UpSlot} (up : s.lanes[laneOf b].state = .up) (fresh : s.berths[b].slotJudged = false)
include up fresh

theorem slotArrives_valid (valid : SlotValid slot s) : slotArrives b slot s = validSlot b slot.status
    (setBerth b (fun x => { x with slotJudged := true })
      (slotCounted b slot (mismatches (sentTwoBefore s.test b) slot.loopback) s)) := by
  have open_ : ¬ (s.lanes[laneOf b].state ≠ .up ∨ s.berths[b].slotJudged = true) :=
    not_or.2 ⟨not_not.2 up, fun judged => Bool.false_ne_true (fresh.symm.trans judged)⟩
  rw [slotCounted, if_pos valid.1, ← testErrors_setBerth]
  exact (if_neg open_).trans ((if_pos valid.1).trans (if_pos valid.2))

theorem slotArrives_invalid (invalid : ¬ SlotValid slot s) : slotArrives b slot s =
    invalidSlot b (setBerth b (fun x => { x with slotJudged := true }) (slotCounted b slot 48 s)) := by
  have open_ : ¬ (s.lanes[laneOf b].state ≠ .up ∨ s.berths[b].slotJudged = true) :=
    not_or.2 ⟨not_not.2 up, fun judged => Bool.false_ne_true (fresh.symm.trans judged)⟩
  rw [slotCounted, ← testErrors_setBerth]
  by_cases good : slotCrcGood slot = true
  · rw [if_pos good]
    exact (if_neg open_).trans ((if_pos good).trans (if_neg fun echo => invalid ⟨good, echo⟩))
  · rw [if_neg good]
    exact (if_neg open_).trans (if_neg good)

end

theorem echoGood_iff (s : State) (echo : BitVec 16) : echoGood s echo = true ↔ echo + 2 = s.timer.frameNumber := by
  rw [echoGood, beq_iff_eq]
  exact eq_sub_iff_add_eq

theorem slotCrcGood_iff (slot : UpSlot) : slotCrcGood slot = true ↔
    crc16 (be16 slot.echo ++ [slot.status] ++ (slot.loopback.map be16).flatten) = slot.crc := beq_iff_eq

theorem checked_iff (s : State) (b : Berth) : checked s b = true ↔
    s.test.running = true ∧ inSet s.test.tested b = true ∧ 3 ≤ s.test.frame := by
  rw [checked, Bool.and_eq_true, Bool.and_eq_true, decide_eq_true_iff, and_assoc]

theorem slotCounted_berths (slot : UpSlot) (n : Nat) (s : State) : (slotCounted b slot n s).berths = s.berths := by
  unfold slotCounted testErrors
  split <;> split <;> rfl

end

theorem exec_upstreamSlot {b : Berth} {slot : UpSlot} {s t : State} (quiet : LinkQuiet s) (h : slotArrives b slot s = t) :
    exec (.upstreamSlot b slot) s = .next t.sent :=
  h ▸ goOn_sent quiet (slotArrives_queues b slot s).buffer

end Sys2Proof.Machine
end

section
/-! The closing of a lane frame: what it reports and counts of a berth (O44). -/

namespace Sys2Proof.Machine

/-! ## A berth's departure -/

/-- The BERTH_CHANGE notice of a berth that has gone ABSENT (R157, R159). -/
def leaveNotice (b : Berth) : Notice := .berthChange b false false false

/-- From u to v a berth stays or goes ABSENT; when it goes and the flag is clear, its notice is queued, and no other
BERTH_CHANGE notice of it is (R157, R159). -/
structure Departs (b : Berth) (u v : State) : Prop where
  present : v.berths[b].present = true → u.berths[b].present = true
  pending : v.berths[b].changePending = (u.berths[b].changePending || (u.berths[b].present && !v.berths[b].present))
  queues  : Queues (fun _ => True) u v
  reports : u.berths[b].present = true → v.berths[b].present = false → u.berths[b].changePending = false →
    Reports u v (leaveNotice b)
  keeps   : ∀ n : Notice, n.OfBerth b →
    ¬ (u.berths[b].present = true ∧ v.berths[b].present = false ∧ u.berths[b].changePending = false ∧ n = leaveNotice b) →
    KeepsCount u v n

section
variable {b : Berth} {u v w : State}

/-- An act that leaves the berth alone and queues no BERTH_CHANGE notice of it. -/
theorem Departs.of_still {K : Notice → Prop} (present : v.berths[b].present = u.berths[b].present)
    (pending : v.berths[b].changePending = u.berths[b].changePending) (queues : Queues K u v)
    (others : ∀ n : Notice, n.OfBerth b → ¬ K n) : Departs b u v where
  present h := present ▸ h
  pending := by rw [pending, present, Bool.and_not_self, Bool.or_false]
  queues := queues.mono fun _ _ => trivial
  reports was gone := absurd (was.symm.trans (present.symm.trans gone)) (by simp)
  keeps n own _ := queues.keepsCount (others n own)

theorem Departs.refl (u : State) : Departs b u u :=
  .of_still rfl rfl (Queues.refl (K := fun _ => False) u) fun _ _ => id

theorem Departs.trans (h : Departs b u v) (k : Departs b v w) : Departs b u w where
  present was := h.present (k.present was)
  pending := by
    have first := h.present
    have second := k.present
    rw [k.pending, h.pending]
    cases pu : u.berths[b].present <;> cases pv : v.berths[b].present <;> cases pw : w.berths[b].present <;>
      simp_all
  queues := h.queues.trans k.queues
  reports was gone clear := by
    cases between : v.berths[b].present with
    | false => exact (h.reports was between clear).then_ k.queues
    | true =>
      refine h.queues.reports (k.reports between gone ?_)
      rw [h.pending, clear, was, between]
      rfl
  keeps n own other := by
    refine (h.keeps n own fun ⟨was, gone, clear, same⟩ => ?_).trans (k.keeps n own fun ⟨was, gone, clear, same⟩ => ?_)
    · refine other ⟨was, Bool.eq_false_iff.2 fun back => ?_, clear, same⟩
      exact Bool.false_ne_true (gone.symm.trans (k.present back))
    · have clear := h.pending.symm.trans clear
      exact other ⟨h.present was, gone, (Bool.or_eq_false_iff.1 clear).1, same⟩

theorem Departs.foldl {α : Type} {f : State → α → State} (h : ∀ s x, Departs b s (f s x)) (l : List α) (s : State) :
    Departs b s (l.foldl f s) := by
  induction l generalizing s with
  | nil => exact .refl s
  | cons x l ih => exact (h s x).trans (ih (f s x))

/-- A berth's own record changes, with a report when it goes ABSENT. -/
theorem departs_told {y : BerthLink} {report : Bool} (present : y.present = true → u.berths[b].present = true)
    (pending : y.changePending = u.berths[b].changePending) (due : report = (u.berths[b].present && !y.present))
    (defaults : report = true → y.headphone.accepted = false ∧ y.screen.accepted = false) :
    Departs b u (told b y report u) := by
  by_cases reported : report = true ∧ y.changePending = false
  · obtain ⟨isDue, clear⟩ := reported
    obtain ⟨was, gone⟩ := Bool.and_eq_true_iff.1 (due.symm.trans isDue)
    have gone : y.present = false := by simpa using gone
    obtain ⟨headphone, screen⟩ := defaults isDue
    have act : told b y report u =
        queueNotice (leaveNotice b) (setBerth b (fun _ => { y with changePending := true }) u) := by
      rw [told, if_pos ⟨isDue, clear⟩, gone, headphone, screen]
      rfl
    have record : (told b y report u).berths[b] = { y with changePending := true } := by
      rw [act]
      exact setBerth_berth _ u
    have queued : Queues (fun n => n = leaveNotice b) u (told b y report u) := by
      rw [act]
      exact Queues.after (u := setBerth b (fun _ => { y with changePending := true }) u) (.notice rfl) rfl
    refine ⟨fun h => was, ?_, queued.mono fun _ _ => trivial, fun _ _ _ => ?_, fun n own other => ?_⟩
    · rw [record, was, gone, Bool.not_false, Bool.and_self, Bool.or_true]
    · rw [act]
      exact (Queues.of_link (K := fun _ => True) (s := u) (t := setBerth b (fun _ => { y with changePending := true }) u)
        rfl).reports (reports_queueNotice _ _)
    · rw [record] at other
      exact queued.keepsCount fun same => other ⟨was, gone, pending.symm.trans clear, same⟩
  · have act : told b y report u = setBerth b (fun _ => y) u := if_neg reported
    have record : (told b y report u).berths[b] = y := by
      rw [act]
      exact setBerth_berth _ u
    have quiet : Queues (fun _ => False) u (told b y report u) := .of_link (by rw [act]; rfl)
    refine ⟨fun h => present (record ▸ h), ?_, quiet.mono fun _ h => h.elim, fun was gone clear => ?_,
      fun n own _ => quiet.keepsCount id⟩
    · rw [record, pending, ← due]
      cases clear : u.berths[b].changePending with
      | true => rfl
      | false =>
        have : ¬ report = true := fun isDue => reported ⟨isDue, pending.trans clear⟩
        exact (Bool.eq_false_iff.2 this).symm
    · rw [record] at gone
      refine absurd ⟨?_, pending.trans clear⟩ reported
      rw [due, was, gone]
      rfl

theorem departs_makeAbsent (b c : Berth) (u : State) : Departs b u (makeAbsent c u) := by
  by_cases own : c = b
  · subst own
    rw [makeAbsent_eq]
    exact departs_told (fun h => absurd h Bool.false_ne_true) rfl (Bool.and_true _).symm fun _ => ⟨rfl, rfl⟩
  · have record : (makeAbsent c u).berths[b] = u.berths[b] := by
      rw [makeAbsent_berths, amend_get, if_neg own]
    refine .of_still (by rw [record]) (by rw [record]) (makeAbsent_queues c u) fun n isB isC => ?_
    cases n with
    | berthChange k _ _ _ => exact own (isC.symm.trans isB)
    | _ => exact isB

theorem departs_invalidSlot (b c : Berth) (u : State) : Departs b u (invalidSlot c u) := by
  by_cases own : c = b
  · subst own
    rw [invalidSlot_eq rfl]
    split
    · rename_i gone
      exact departs_told (report := true) (fun h => absurd h Bool.false_ne_true) rfl
        (by rw [show u.berths[c].present = true from gone.1]; rfl) fun _ => ⟨rfl, rfl⟩
    · rw [← told_unreported]
      exact departs_told id rfl (Bool.and_not_self _).symm fun h => absurd h Bool.false_ne_true
  · have record : (invalidSlot c u).berths[b] = u.berths[b] := by
      rw [invalidSlot_berths, amend_get, if_neg own]
    refine .of_still (by rw [record]) (by rw [record]) (invalidSlot_queues c u) fun n isB isC => ?_
    cases n with
    | berthChange k _ _ _ => exact own (isC.symm.trans isB)
    | _ => exact isB

/-- An act that changes no berth and no BERTH_CHANGE notice. -/
theorem departs_of_berths (berths : v.berths = u.berths) (queues : Queues (fun n => ∃ l, n.OfLane l) u v) :
    Departs b u v := by
  refine .of_still (by rw [berths]) (by rw [berths]) queues fun n isB ⟨l, isL⟩ => ?_
  cases n with
  | berthChange => exact isL
  | _ => exact isB

theorem departs_laneLoses (b : Berth) (l : LaneNo) (u : State) : Departs b u (laneLoses l u) := by
  have reported : Departs b u (laneNotice l .up .down .lost (raise (.syncLoss l) 1 (setLane l (fun x => x.enter .down) u))) :=
    departs_of_berths (by simp [laneNotice]) (Queues.after (u := raise (.syncLoss l) 1 (setLane l (fun x => x.enter .down) u))
      (.notice ⟨l, rfl⟩) rfl)
  exact reported.trans (Departs.foldl (fun s c => departs_makeAbsent b c s) (berthsOf l) _)

theorem departs_judgeLane (b : Berth) (l : LaneNo) (u : State) : Departs b u (judgeLane l u) := by
  have quiet {f : Lane → Lane} : Departs b u (setLane l f u) := departs_of_berths rfl (.of_link rfl)
  unfold judgeLane
  dsimp only
  split
  · exact .refl u
  · split
    · split
      · exact departs_of_berths (by simp) (Queues.after (u := setLane l (fun x => x.enter .up) u) (.notice ⟨l, rfl⟩) rfl)
      · exact quiet
    · exact quiet
  · split
    · exact quiet
    · split
      · exact departs_laneLoses b l u
      · exact quiet

theorem departs_closeFrame (b : Berth) (u : State) : Departs b u (closeFrame u) := by
  have slots : Departs b u (closeSlots u) := .foldl (fun s c => by
    split
    · exact departs_invalidSlot b c s
    · exact .refl s) _ u
  have checker : Departs b (closeSlots u) (closeChecker (closeSlots u)) :=
    departs_of_berths (by simp) (.of_link (by simp))
  have lanes : Departs b (closeChecker (closeSlots u)) (closeLanes (closeChecker (closeSlots u))) :=
    .foldl (fun s l => departs_judgeLane b l s) _ _
  have opened : Departs b (closeLanes (closeChecker (closeSlots u))) (closeFrame u) := by
    have record : (closeFrame u).berths[b] =
        { (closeLanes (closeChecker (closeSlots u))).berths[b] with slotJudged := false } := tabulate_get _ b
    exact .of_still (K := fun _ => False) (by rw [record]) (by rw [record]) (.of_link (by simp [closeFrame])) fun _ _ => id
  exact ((slots.trans checker).trans lanes).trans opened

end

/-! ## A berth's record and TEST_ERR -/

theorem missed_slotJudged (x : BerthLink) : x.missed.slotJudged = x.slotJudged := by
  unfold BerthLink.missed
  split <;> rfl

theorem closed_slotJudged (lane : LaneState) (x : BerthLink) : (x.closed lane).slotJudged = x.slotJudged := by
  unfold BerthLink.closed
  split
  · exact missed_slotJudged x
  · rfl

theorem testErrors_counters_eq (b : Berth) (n : Nat) (s : State) : (testErrors b n s).counters =
    if checked s b = true then s.counters.raised (.testErr b) n else s.counters :=
  apply_ite State.counters (checked s b = true) (raise (.testErr b) n s) s

/-- A tested berth without a slot counts 48 errors (R166). -/
theorem closeChecker_pair (b : Berth) (s : State) : (closeChecker s).counters.pair (.testErr b) =
    gainPair (if checked s b = true ∧ s.berths[b].slotJudged = false then 48 else 0) (s.counters.pair (.testErr b)) := by
  refine foldl_finRange_at b
    (P := fun u => u.berths = s.berths ∧ u.test = s.test ∧ u.counters.pair (.testErr b) = s.counters.pair (.testErr b))
    (Q := fun u => u.counters.pair (.testErr b) = gainPair
      (if checked s b = true ∧ s.berths[b].slotJudged = false then 48 else 0) (s.counters.pair (.testErr b))) ?_ ?_ ?_
    ⟨rfl, rfl, rfl⟩
  · rintro u c ne ⟨berths, test, pair⟩
    refine ⟨?_, ?_, (other_pair u c ne).trans pair⟩
    · split
      · exact berths
      · simpa using berths
    · split
      · exact test
      · simpa using test
  · rintro u ⟨berths, test, pair⟩
    have checks : checked u b = checked s b := by rw [checked, checked, test]
    rw [berths]
    cases judged : s.berths[b].slotJudged with
    | true =>
      rw [if_neg (fun h : checked s b = true ∧ true = false => Bool.noConfusion h.2)]
      exact pair
    | false =>
      simp only [Bool.false_eq_true, if_false, and_true]
      rw [testErrors_counters_eq, checks]
      split
      · rw [pair_raised _ (by decide), pair]
      · exact pair
  · intro u c ne pair
    exact (other_pair u c ne).trans pair
where
  other_pair (u : State) (c : Berth) (ne : c ≠ b) :
      (if u.berths[c].slotJudged then u else testErrors c 48 u).counters.pair (.testErr b) =
        u.counters.pair (.testErr b) := by
    split
    · rfl
    · rw [testErrors_counters_eq]
      split
      · exact pair_unread_of_ne (by simpa using ne) 48 _
      · rfl

/-- The lanes' judgement raises SYNC_LOSS alone (R153). -/
theorem closeLanes_unread {α : Type} {π : Counters → α} (losses : ∀ l, Unread π (.syncLoss l)) (s : State) :
    π (closeLanes s).counters = π s.counters :=
  foldl_preserves (P := fun u => π u.counters = π s.counters) (f := fun s l => judgeLane l s)
    (fun _ l h => judgeLane_counters (Q := fun k => π k = π s.counters) (fun k hk => (losses l 1 k).trans hk) h) _ rfl

theorem closeFrame_testErr (b : Berth) (s : State) : (closeFrame s).counters.pair (.testErr b) =
    gainPair (if checked s b = true ∧ s.berths[b].slotJudged = false then 48 else 0) (s.counters.pair (.testErr b)) := by
  have lanes : (closeFrame s).counters.pair (.testErr b) = (closeChecker (closeSlots s)).counters.pair (.testErr b) := by
    rw [← closeLanes_unread (π := Counters.pair (.testErr b)) (fun l => pair_unread_of_ne (by simp))
      (closeChecker (closeSlots s)), closeFrame, (openSlots_keeps _).2.2.2.2.2.2.2.2.2.2.2.2.1]
  have checks : checked (closeSlots s) b = checked s b := by
    rw [checked, checked]
    simp
  rw [lanes, closeChecker_pair, checks, closeSlots_berth, closed_slotJudged]
  simp

section
variable (line : Line) (strobe : Bool) (s : State)

theorem beforeLanes_reads : (beforeLanes line strobe s).berths = s.berths ∧ (beforeLanes line strobe s).lanes = s.lanes ∧
    (beforeLanes line strobe s).test = s.test := by simp [beforeLanes]

theorem frameBegun_berths : (frameBegun line strobe s).berths = (closeFrame (beforeLanes line strobe s)).berths := by
  rw [← (beforeVoice_reads line strobe s).2.2.1]
  simp [beforeVoice, beforeClock, beforeLanes, testFrame]

end

theorem losesSync_iff (x : Lane) : x.losesSync = true ↔ x.state = .up ∧ x.trailerGood = false ∧ 8 ≤ x.badRun + 1 := by
  simp [Lane.losesSync, and_assoc]

theorem departs_beforeMixer (line : Line) (strobe : Bool) (s : State) (b : Berth) :
    Departs b s (beforeMixer line strobe s) := by
  have reads := beforeLanes_reads line strobe s
  have after : (beforeMixer line strobe s).berths = (closeFrame (beforeLanes line strobe s)).berths := by
    simp [beforeMixer, beforeVoice, beforeClock, beforeLanes, testFrame, chimeFrame]
  have first : Departs b s (beforeLanes line strobe s) :=
    .of_still (by rw [reads.1]) (by rw [reads.1]) (beforeLanes_queues line strobe s) fun n own => by
      cases n <;> simp_all [Notice.OfBerth, Notice.OfTimer, Notice.OfProgrammes, Notice.OfProgramme, Notice.OfEmergency]
  have last : Departs b (closeFrame (beforeLanes line strobe s)) (beforeMixer line strobe s) :=
    .of_still (by rw [after]) (by rw [after]) (afterLanes_queues line strobe s) fun n own => by
      cases n <;> simp_all [Notice.OfBerth, Notice.OfClock, Notice.OfVoice]
  exact (first.trans (departs_closeFrame b _)).trans last

/-- An invalid slot is the eighth of a PRESENT berth (R157). -/
theorem eighth_iff (x : BerthLink) : (x.countInvalid.present && x.countInvalid.invalidRun == 8) = true ↔
    x.present = true ∧ 8 ≤ x.invalidRun + 1 := by
  rw [Bool.and_eq_true, beq_iff_eq]
  refine and_congr_right fun _ => ?_
  show min (x.invalidRun + 1) 8 = 8 ↔ _
  omega

/-- Settles O44: a slot is one change of the berth's record; what the closing of a frame does to it is a departure. -/
theorem upstreamSlotIsJudged : Obligations.UpstreamSlotIsJudged := by
  unfold Obligations.UpstreamSlotIsJudged
  intro absent
  refine ⟨fun s b slot quiet => ⟨fun closed => exec_upstreamSlot quiet (slotArrives_closed closed), fun up fresh => ?_⟩, ?_⟩
  · intro x good valid heard checks sent errors counted becomes
    have goodIff : slotCrcGood slot = true ↔ good := slotCrcGood_iff slot
    have validIff : SlotValid slot s ↔ valid := and_congr goodIff (echoGood_iff s slot.echo)
    have counting (n : Nat) (same : errors = n) : slotCounted b slot n s = counted := by
      have raised : (if slotCrcGood slot then s else raise (.slotErr b) 1 s) = heard := if_congr goodIff rfl rfl
      have test : heard.test = s.test := by
        rw [← raised]
        split <;> rfl
      have under : checked heard b = true ↔ checks := by
        rw [checked_iff, test]
      rw [slotCounted, raised, ← same]
      exact if_congr under rfl rfl
    have become (y : BerthLink) (report press : Bool) (h : slotArrives b slot s = changed b y report press counted) :
        becomes y report press := exec_upstreamSlot quiet h
    have berth (n : Nat) (same : errors = n) : counted.berths[b] = x := by
      rw [← counting n same, slotCounted_berths]
    refine ⟨fun isValid => ?_, fun notValid => ?_⟩
    · intro field taken position knob z
      have same : errors = mismatches (sentTwoBefore s.test b) slot.loopback := if_pos isValid
      have arrives := slotArrives_valid up fresh (validIff.2 isValid)
      rw [counting _ same] at arrives
      have moved : (((setBerth b (fun x => { x with slotJudged := true }) counted).berths[b]).debounce
          slot.status).countValid = z := by
        rw [setBerth_berth, berth _ same]
        rfl
      have headphone : z.headphone.accepted = x.headphone.accepted := Debounced.sample_accepted x.headphone _
      have call : z.call.accepted = x.call.accepted := Debounced.sample_accepted x.call _
      have screen : z.screen.accepted = x.screen.accepted := Debounced.sample_accepted x.screen _
      split
      · rename_i holds
        intro y
        have third : z.present = true ∨ z.validRun = 3 :=
          holds.imp_right fun two => Nat.min_eq_right (Nat.succ_le_succ two)
        have entered : z.entered = y := by
          simp only [BerthLink.entered, BerthLink.settle, settle_eq]
          rfl
        have report : (!z.present || reportable z y) = (!x.present || y.headphone.accepted != x.headphone.accepted ||
            y.screen.accepted != x.screen.accepted) := by
          rw [reportable, headphone, screen, Bool.or_assoc, bne_comm (a := x.headphone.accepted),
            bne_comm (a := x.screen.accepted)]
        have press : pressedNow z y = (!x.call.accepted && y.call.accepted) := by rw [pressedNow, call]
        refine become y _ _ (arrives.trans ((validSlot_present moved third).trans ?_))
        rw [entered, report, press, changed_setBerth]
      · rename_i short
        obtain ⟨away, few⟩ := not_or.1 short
        have absentZ : z.present = false := Bool.eq_false_iff.2 away
        have run : z.validRun ≠ 3 := fun h => few (by
          have : min (x.validRun + 1) 3 = 3 := h
          omega)
        refine become z _ _ (arrives.trans ((validSlot_absent moved absentZ run).trans ?_))
        rw [setBerth_setBerth, changed_unreported]
        rfl
    · intro z
      have same : errors = 48 := if_neg notValid
      have arrives := slotArrives_invalid up fresh (fun h => notValid (validIff.1 h))
      rw [counting _ same] at arrives
      have moved : ((setBerth b (fun x => { x with slotJudged := true }) counted).berths[b]).countInvalid = z := by
        rw [setBerth_berth, berth _ same]
        rfl
      have eighth : (z.present = true ∧ z.invalidRun = 8) ↔ x.present = true ∧ 8 ≤ x.invalidRun + 1 := by
        refine and_congr_right fun _ => ?_
        show min (x.invalidRun + 1) 8 = 8 ↔ _
        omega
      rw [invalidSlot_eq moved] at arrives
      split
      · rename_i gone
        refine become (absent z) _ _ (arrives.trans ((if_pos (eighth.2 gone)).trans ?_))
        exact changed_setBerth _ _ _ _ counted
      · rename_i stays
        refine become z _ _ (arrives.trans ((if_neg fun h => stays (eighth.1 h)).trans ?_))
        rw [setBerth_setBerth, changed_unreported]
        rfl
  · refine fun s line => ⟨rfl, fun strobe b => ?_⟩
    intro t x lane missed y z gone tested
    obtain ⟨berths, lanes, test⟩ := beforeLanes_reads line strobe s
    have departs := departs_beforeMixer line strobe s b
    have same : t.berths = (closeFrame (beforeLanes line strobe s)).berths := frameBegun_berths line strobe s
    have mixed : (beforeMixer line strobe s).berths = t.berths := by
      rw [same]
      simp [beforeMixer, beforeVoice, beforeClock, beforeLanes, testFrame, chimeFrame]
    have record : t.berths[b] = { (if lane.losesSync = true then (x.closed lane.state).absented else x.closed lane.state)
        with slotJudged := false } := by
      rw [same, closeFrame_berth, berths, lanes]
    have closed (p : Bool) : { x.closed lane.state with slotJudged := false, changePending := p } =
        { y with slotJudged := false, changePending := p } := by
      by_cases missing : missed
      · have model : x.closed lane.state = x.missed := if_pos (by rw [missing.1, missing.2]; rfl)
        rw [model, BerthLink.missed]
        by_cases full : x.present = true ∧ 8 ≤ x.invalidRun + 1
        · have gives : y = absent { x with validRun := 0, invalidRun := min (x.invalidRun + 1) 8 } :=
            (if_pos missing).trans (if_pos full)
          rw [if_pos ((eighth_iff x).2 full), gives]
          rfl
        · have gives : y = { x with validRun := 0, invalidRun := min (x.invalidRun + 1) 8 } :=
            (if_pos missing).trans (if_neg full)
          rw [if_neg (fun h => full ((eighth_iff x).1 h)), gives]
          rfl
      · have model : x.closed lane.state = x := if_neg fun h => missing (by
          obtain ⟨up, unjudged⟩ := Bool.and_eq_true_iff.1 h
          exact ⟨beq_iff_eq.1 up, by simpa using unjudged⟩)
        have gives : y = x := if_neg missing
        rw [model, gives]
    have fields (p : Bool) : { t.berths[b] with changePending := p } =
        { z with slotJudged := false, changePending := p } := by
      rw [record]
      by_cases loses : lane.losesSync = true
      · have gives : z = absent y := if_pos ((losesSync_iff lane).1 loses)
        rw [if_pos loses, gives]
        exact congrArg absent (closed p)
      · have gives : z = y := if_neg fun h => loses ((losesSync_iff lane).2 h)
        rw [if_neg loses, gives]
        exact closed p
    have present : t.berths[b].present = z.present := by
      have same := congrArg BerthLink.present (fields true)
      exact same
    have left : (x.present && !t.berths[b].present) = decide gone := by
      rw [present, Bool.eq_iff_iff, Bool.and_eq_true, Bool.not_eq_true', decide_eq_true_iff]
    have pending := departs.pending
    rw [mixed, left] at pending
    refine ⟨?_, fun ⟨isGone, clear⟩ => ?_, fun p h sc other => ?_, ?_, countsAtFrame_still (.inr (.inr (.inr ⟨b, rfl⟩)))⟩
    · rw [← pending]
      exact fields _
    · exact reports_frameBegun (departs.reports isGone.1 (by rw [mixed, present]; exact isGone.2) clear)
    · refine keepsCount_frameBegun (departs.keeps _ rfl fun ⟨was, away, clear, notice⟩ => ?_)
      rw [mixed, present] at away
      obtain ⟨_, rfl, rfl, rfl⟩ := Notice.berthChange.inj notice
      exact other ⟨⟨was, away⟩, clear, rfl, rfl, rfl⟩
    · have counted : (checked (beforeLanes line strobe s) b = true ∧ (beforeLanes line strobe s).berths[b].slotJudged = false) ↔
          tested ∧ x.slotJudged = false := by
        rw [checked_iff, test, berths]
      refine countsAtFrame_lanes (by simp) (by simp) (by simp) ((closeFrame_testErr b _).trans ?_)
      rw [if_congr counted rfl rfl]

end Sys2Proof.Machine
end

section
/-! The lanes: their requests, their events and the closing of a frame (O43). -/

namespace Sys2Proof.Machine

/-! ## A lane's berths go ABSENT -/

section
variable {s u v w : State}

/-- From u to v no block but the berths and the link unit changes. -/
def OnlyBerths (u v : State) : Prop := { v with berths := u.berths, link := u.link } = u

theorem OnlyBerths.refl (u : State) : OnlyBerths u u := rfl

theorem OnlyBerths.trans (h : OnlyBerths u v) (k : OnlyBerths v w) : OnlyBerths u w := by
  have both : { w with berths := u.berths, link := u.link } = { v with berths := u.berths, link := u.link } :=
    congrArg (fun x : State => { x with berths := u.berths, link := u.link }) k
  exact both.trans h

end

theorem makeAbsent_only (b : Berth) (s : State) : OnlyBerths s (makeAbsent b s) := by
  rw [makeAbsent_eq]
  unfold told
  split <;> rfl

theorem laneAbsent_only (l : LaneNo) (s : State) : OnlyBerths s (laneAbsent l s) := by
  have fold (bs : List Berth) (s : State) : OnlyBerths s (bs.foldl (fun s b => makeAbsent b s) s) := by
    induction bs generalizing s with
    | nil => exact .refl s
    | cons b bs ih => exact (makeAbsent_only b s).trans (ih _)
  exact fold _ s

/-- A PRESENT berth with a clear flag has its BERTH_CHANGE notice when it goes ABSENT (R157, R159). -/
def BerthLink.leaves (x : BerthLink) : Bool := x.present && !x.changePending

theorem makeAbsent_link (b : Berth) (s : State) : (makeAbsent b s).link =
    if s.berths[b].leaves then s.link.queue (leaveNotice b) else s.link := by
  rw [makeAbsent_eq]
  unfold told
  have reports : (s.berths[b].present = true ∧ s.berths[b].goAbsent.changePending = false) ↔ s.berths[b].leaves = true := by
    rw [BerthLink.leaves, Bool.and_eq_true, Bool.not_eq_true']
    rfl
  by_cases leaves : s.berths[b].leaves = true
  · rw [if_pos (reports.2 leaves), if_pos leaves]
    rfl
  · rw [if_neg (fun h => leaves (reports.1 h)), if_neg leaves]
    rfl

/-- The notices of berths that go ABSENT one after the other (R153, R159). -/
theorem makeAbsents_link {bs : List Berth} (nodup : bs.Nodup) (s : State) :
    (bs.foldl (fun s b => makeAbsent b s) s).link =
      ((bs.filter fun b => s.berths[b].leaves).map leaveNotice).foldl Link.queue s.link := by
  induction bs generalizing s with
  | nil => rfl
  | cons b bs ih =>
    obtain ⟨fresh, nodup⟩ := List.nodup_cons.1 nodup
    have others : (bs.filter fun c => (makeAbsent b s).berths[c].leaves) = bs.filter fun c => s.berths[c].leaves :=
      List.filter_congr fun c mem => by
        have other : b ≠ c := fun same => fresh (same ▸ mem)
        rw [makeAbsent_berths, amend_get, if_neg other]
    rw [List.foldl_cons, ih nodup, others, makeAbsent_link]
    cases leaves : s.berths[b].leaves with
    | true =>
      rw [List.filter_cons_of_pos (p := fun c : Berth => s.berths[c].leaves) leaves]
      rfl
    | false =>
      rw [List.filter_cons_of_neg (p := fun c : Berth => s.berths[c].leaves) (by rw [leaves]; exact Bool.false_ne_true)]
      rfl

/-- The BERTH_CHANGE notices of a lane whose berths go ABSENT, in slot order (R159). -/
def leaveNotices (l : LaneNo) (s : State) : List Notice :=
  ((List.finRange 40).filter fun b => decide (laneOf b = l) && s.berths[b].present && !s.berths[b].changePending).map
    leaveNotice

theorem laneAbsent_link (l : LaneNo) (s : State) :
    (laneAbsent l s).link = (leaveNotices l s).foldl Link.queue s.link := by
  have gone : (berthsOf l).filter (fun b => s.berths[b].leaves) = (List.finRange 40).filter fun b =>
      decide (laneOf b = l) && s.berths[b].present && !s.berths[b].changePending := by
    rw [berthsOf, List.filter_filter]
    refine List.filter_congr fun b _ => ?_
    rw [BerthLink.leaves, Bool.and_comm, Bool.and_assoc, Bool.beq_eq_decide_eq]
  rw [laneAbsent, makeAbsents_link (nodup_berthsOf l), gone]
  rfl

/-! ## LANE_SET and LANE_RESET -/

section
variable {serial lane enable : Byte} {l : LaneNo} {s : State}

theorem exec_laneSet_of_handler {x : State × Reply} (ready : LinkReady s) (h : handleLaneSet lane enable s = x) :
    exec (.laneSet serial lane enable) s =
      .next (x.1.answered { kind := 0x40, serial := serial, payload := [lane, enable] } x.2) :=
  request_replied serial ready rfl (congrArg replied h)

theorem exec_laneReset_of_handler {x : State × Reply} (ready : LinkReady s) (h : handleLaneReset lane s = x) :
    exec (.laneReset serial lane) s = .next (x.1.answered { kind := 0x41, serial := serial, payload := [lane] } x.2) :=
  request_replied serial ready rfl (congrArg replied h)

theorem handleLaneSet_of_bad (h : lane.toNat < 1 ∨ 4 < lane.toNat ∨ 1 < enable.toNat) :
    handleLaneSet lane enable s = (s, refuse .badField) := by
  rcases (by omega : (lane.toNat < 1 ∨ 4 < lane.toNat) ∨ 1 < enable.toNat) with badLane | badEnable
  · simp only [handleLaneSet, indexOf_none badLane]
  · cases found : indexOf 4 lane <;> simp only [handleLaneSet, found, yesNo_none badEnable]

theorem handleLaneReset_of_bad (h : lane.toNat < 1 ∨ 4 < lane.toNat) :
    handleLaneReset lane s = (s, refuse .badField) := by
  simp only [handleLaneReset, indexOf_none h]

variable (hl : lane.toNat = l.val + 1)
include hl

theorem handleLaneSet_enables (disabled : s.lanes[l].state = .disabled) : handleLaneSet lane 1 s =
    (laneNotice l .disabled .down .request (setLane l (fun x => x.enter .down) s), okReply []) := by
  simp only [handleLaneSet, indexOf_some hl, show yesNo 1 = some true from rfl, disabled]

theorem handleLaneSet_enabled (enabled : s.lanes[l].state ≠ .disabled) : handleLaneSet lane 1 s = (s, okReply []) := by
  simp only [handleLaneSet, indexOf_some hl, show yesNo 1 = some true from rfl]
  split
  · rename_i disabled
    exact absurd disabled enabled
  · rfl
  · rfl

theorem handleLaneSet_disabled (disabled : s.lanes[l].state = .disabled) : handleLaneSet lane 0 s = (s, okReply []) := by
  simp only [handleLaneSet, indexOf_some hl, show yesNo 0 = some false from rfl, disabled]

theorem handleLaneSet_disables_down (down : s.lanes[l].state = .down) : handleLaneSet lane 0 s =
    (laneNotice l .down .disabled .request (setLane l (fun x => x.enter .disabled) s), okReply []) := by
  simp only [handleLaneSet, indexOf_some hl, show yesNo 0 = some false from rfl, down]

theorem handleLaneSet_disables_up (up : s.lanes[l].state = .up) : handleLaneSet lane 0 s =
    (laneAbsent l (laneNotice l .up .disabled .request (setLane l (fun x => x.enter .disabled) s)), okReply []) := by
  simp only [handleLaneSet, indexOf_some hl, show yesNo 0 = some false from rfl, up]

theorem handleLaneReset_of_lane : handleLaneReset lane s =
    (if s.lanes[l].state = .down then resetLaneBerths l (setLane l (fun x => x.enter .down) s)
      else laneNotice l s.lanes[l].state .down .request (resetLaneBerths l (setLane l (fun x => x.enter .down) s)),
      okReply []) := by
  simp only [handleLaneReset, indexOf_some hl]

end

/-! ## LANE_TRAINED, LANE_SYNC_LOSS and TRAILER_ARRIVAL -/

section
variable {l : LaneNo} {s t : State} (quiet : LinkQuiet s)
include quiet

theorem exec_laneTrained (h : laneTrainedEvent l s = t) (buffer : t.link.buffer = s.link.buffer) :
    exec (.laneTrained l) s = .next t.sent := by
  subst h
  exact goOn_sent quiet buffer

theorem exec_laneSyncLoss (h : laneSyncLossEvent l s = t) (buffer : t.link.buffer = s.link.buffer) :
    exec (.laneSyncLoss l) s = .next t.sent := by
  subst h
  exact goOn_sent quiet buffer

theorem exec_trailerArrival {echo crc : BitVec 16} (h : trailerArrives l echo crc s = t) :
    exec (.trailerArrival l echo crc) s = .next t.sent := by
  subst h
  exact goOn_sent quiet (by rw [trailerArrives_link])

end

/-- What a lane leaves of its berths and its notices when it leaves UP (R151, R153). -/
theorem laneLeft {l : LaneNo} {s v : State} {n : Notice} (berths : v.berths = s.berths) (link : v.link = s.link.queue n) :
    (laneAbsent l v).link = (queueNotices (n :: leaveNotices l s) s).link ∧
    ∀ b : Berth, (laneAbsent l v).berths[b] = if laneOf b = l then s.berths[b].absented else s.berths[b] := by
  refine ⟨?_, fun b => by rw [laneAbsent_berth, berths]⟩
  rw [laneAbsent_link, link, queueNotices_eq, leaveNotices, berths]
  rfl

/-! ## The closing of a frame -/

/-- A DOWN lane becomes UP with the frame just ended (R153). -/
def Lane.trains (x : Lane) : Bool := x.state == .down && x.trailerGood && decide (16 ≤ x.goodRun + 1)

theorem trains_iff (x : Lane) : x.trains = true ↔ x.state = .down ∧ x.trailerGood = true ∧ 16 ≤ x.goodRun + 1 := by
  simp [Lane.trains, and_assoc]

section
variable {l : LaneNo} {s : State}

theorem judgeLane_of_trains (h : s.lanes[l].trains = true) : judgeLane l s = laneTrains l s := by
  obtain ⟨down, good, full⟩ := (trains_iff _).1 h
  simp only [judgeLane, down, good, if_pos full, if_true]

theorem judgeLane_of_loses (h : s.lanes[l].losesSync = true) : judgeLane l s = laneLoses l s := by
  obtain ⟨up, bad, full⟩ := (losesSync_iff _).1 h
  simp only [judgeLane, up, bad, if_pos full, Bool.false_eq_true, if_false]

/-- A lane that keeps its state queues nothing and counts nothing (R153). -/
theorem judgeLane_of_stays (stays : s.lanes[l].trains = false) (keeps : s.lanes[l].losesSync = false) :
    (judgeLane l s).link = s.link ∧ (judgeLane l s).counters = s.counters := by
  unfold judgeLane
  dsimp only
  split <;> rename_i state
  · exact ⟨rfl, rfl⟩
  · split <;> rename_i good
    · split <;> rename_i full
      · exact absurd ((trains_iff _).2 ⟨state, good, full⟩) (by rw [stays]; exact Bool.false_ne_true)
      · exact ⟨rfl, rfl⟩
    · exact ⟨rfl, rfl⟩
  · split <;> rename_i good
    · exact ⟨rfl, rfl⟩
    · split <;> rename_i full
      · exact absurd ((losesSync_iff _).2 ⟨state, Bool.eq_false_iff.2 good, full⟩)
          (by rw [keeps]; exact Bool.false_ne_true)
      · exact ⟨rfl, rfl⟩

theorem judgeLane_queues_own (l : LaneNo) (s : State) :
    Queues (fun n => n.OfLane l ∨ ∃ b, n.OfBerth b) s (judgeLane l s) := by
  by_cases trains : s.lanes[l].trains = true
  · rw [judgeLane_of_trains trains]
    exact ((laneNotice_queues l _ _ _ _).after rfl).mono fun _ h => .inl h
  · by_cases loses : s.lanes[l].losesSync = true
    · rw [judgeLane_of_loses loses]
      refine Queues.trans (t := laneNotice l .up .down .lost (raise (.syncLoss l) 1 (setLane l (fun x => x.enter .down) s)))
        (((laneNotice_queues l _ _ _ _).after rfl).mono fun _ h => .inl h) ?_
      exact (laneAbsent_queues l _).mono fun _ h => .inr h
    · exact .of_link (judgeLane_of_stays (Bool.eq_false_iff.2 trains) (Bool.eq_false_iff.2 loses)).1

theorem judgeLane_counters_eq (l : LaneNo) (s : State) : (judgeLane l s).counters =
    if s.lanes[l].losesSync = true then s.counters.raised (.syncLoss l) 1 else s.counters := by
  by_cases loses : s.lanes[l].losesSync = true
  · rw [if_pos loses, judgeLane_of_loses loses]
    simp only [laneLoses, laneAbsent_keeps, laneNotice, queueNotice_counters]
    rfl
  · rw [if_neg loses]
    by_cases trains : s.lanes[l].trains = true
    · rw [judgeLane_of_trains trains]
      rfl
    · exact (judgeLane_of_stays (Bool.eq_false_iff.2 trains) (Bool.eq_false_iff.2 loses)).2

/-- Acts on the other lanes leave this lane's record, and queue nothing of it. -/
theorem judgeLane_other {m : LaneNo} (ne : m ≠ l) (s : State) : (judgeLane m s).lanes[l] = s.lanes[l] := by
  rw [judgeLane_lanes, amend_get, if_neg ne]

theorem laneState_not_own {m : LaneNo} {x y : LaneState} {c : LaneCause} (ne : m ≠ l) :
    ¬ (Notice.OfLane m (.laneState l x y c) ∨ ∃ b, Notice.OfBerth b (.laneState l x y c)) := by
  rintro (own | ⟨b, own⟩)
  · exact ne own.symm
  · exact own

/-- A lane's own notice is reported by the lanes' judgement (R153). -/
theorem closeLanes_reports {n : Notice}
    (own : ∀ u : State, u.lanes[l] = s.lanes[l] → Reports u (judgeLane l u) n) : Reports s (closeLanes s) n := by
  refine foldl_finRange_at l (P := fun u => u.lanes[l] = s.lanes[l] ∧ Queues (fun _ => True) s u)
    (Q := fun u => Reports s u n) ?_ ?_ ?_ ⟨rfl, .refl s⟩
  · rintro u m ne ⟨record, queued⟩
    exact ⟨(judgeLane_other ne u).trans record, queued.trans ((judgeLane_queues m u).mono fun _ _ => trivial)⟩
  · rintro u ⟨record, queued⟩
    exact queued.reports (own u record)
  · intro u m _ h
    exact h.then_ (judgeLane_queues m u)

theorem closeLanes_keepsCount {x y : LaneState} {c : LaneCause} (stays : s.lanes[l].trains = false)
    (keeps : s.lanes[l].losesSync = false) : KeepsCount s (closeLanes s) (.laneState l x y c) := by
  refine foldl_finRange_at l (P := fun u => u.lanes[l] = s.lanes[l] ∧ KeepsCount s u (.laneState l x y c))
    (Q := fun u => KeepsCount s u (.laneState l x y c)) ?_ ?_ ?_ ⟨rfl, rfl⟩
  · rintro u m ne ⟨record, kept⟩
    exact ⟨(judgeLane_other ne u).trans record,
      kept.trans ((judgeLane_queues_own m u).keepsCount (laneState_not_own ne))⟩
  · rintro u ⟨record, kept⟩
    rw [← record] at stays keeps
    exact kept.trans ((Queues.of_link (K := fun _ => False) (judgeLane_of_stays stays keeps).1).keepsCount id)
  · intro u m ne kept
    exact kept.trans ((judgeLane_queues_own m u).keepsCount (laneState_not_own ne))

theorem closeLanes_syncLoss (l : LaneNo) (s : State) : (closeLanes s).counters.pair (.syncLoss l) =
    gainPair (if s.lanes[l].losesSync = true then 1 else 0) (s.counters.pair (.syncLoss l)) := by
  have others (u : State) (m : LaneNo) (ne : m ≠ l) :
      (judgeLane m u).counters.pair (.syncLoss l) = u.counters.pair (.syncLoss l) := by
    rw [judgeLane_counters_eq]
    split
    · exact pair_unread_of_ne (by simpa using ne) 1 _
    · rfl
  refine foldl_finRange_at l
    (P := fun u => u.lanes[l] = s.lanes[l] ∧ u.counters.pair (.syncLoss l) = s.counters.pair (.syncLoss l))
    (Q := fun u => u.counters.pair (.syncLoss l) =
      gainPair (if s.lanes[l].losesSync = true then 1 else 0) (s.counters.pair (.syncLoss l))) ?_ ?_ ?_ ⟨rfl, rfl⟩
  · rintro u m ne ⟨record, pair⟩
    exact ⟨(judgeLane_other ne u).trans record, (others u m ne).trans pair⟩
  · rintro u ⟨record, pair⟩
    rw [judgeLane_counters_eq, record]
    split
    · rw [pair_raised _ Nat.one_ne_zero, pair]
    · exact pair
  · intro u m ne pair
    exact (others u m ne).trans pair

end

/-! ### The whole closing, and the frame start -/

section
variable (l : LaneNo) (s : State)

theorem closeSlots_lane : (closeChecker (closeSlots s)).lanes[l] = s.lanes[l] := by simp

/-- Up to the lanes' judgement only BERTH_CHANGE notices are queued. -/
theorem beforeJudgement_queues : Queues (fun n => ∃ b, n.OfBerth b) s (closeChecker (closeSlots s)) :=
  (closeSlots_queues s).then_ (by simp)

variable {l s} {n : Notice}

theorem closeFrame_reports (own : ∀ u : State, u.lanes[l] = s.lanes[l] → Reports u (judgeLane l u) n) :
    Reports s (closeFrame s) n := by
  have judged : Reports (closeChecker (closeSlots s)) (closeLanes (closeChecker (closeSlots s))) n :=
    closeLanes_reports fun u record => own u (record.trans (closeSlots_lane l s))
  exact ((beforeJudgement_queues s).reports judged).of_link (by simp [closeFrame])

theorem closeFrame_keepsCount {x y : LaneState} {c : LaneCause} (stays : s.lanes[l].trains = false)
    (keeps : s.lanes[l].losesSync = false) : KeepsCount s (closeFrame s) (.laneState l x y c) := by
  rw [← closeSlots_lane l s] at stays keeps
  have before : KeepsCount s (closeChecker (closeSlots s)) (.laneState l x y c) :=
    (beforeJudgement_queues s).keepsCount fun ⟨_, own⟩ => own
  have judged := before.trans (closeLanes_keepsCount (x := x) (y := y) (c := c) stays keeps)
  exact judged.trans ((Queues.of_link (K := fun _ => False) (by simp [closeFrame])).keepsCount id)

/-- The checker raises TEST_ERR alone (R166). -/
theorem closeChecker_unread {α : Type} {π : Counters → α} (errors : ∀ b, Unread π (.testErr b)) (s : State) :
    π (closeChecker s).counters = π s.counters := by
  unfold closeChecker
  refine foldl_preserves (P := fun u => π u.counters = π s.counters) (fun u b h => ?_) _ (Eq.refl (π s.counters))
  split
  · exact h
  · exact testErrors_counters (Q := fun k => π k = π s.counters) (fun k hk => (errors b 48 k).trans hk) h

theorem closeFrame_syncLoss (l : LaneNo) (s : State) : (closeFrame s).counters.pair (.syncLoss l) =
    gainPair (if s.lanes[l].losesSync = true then 1 else 0) (s.counters.pair (.syncLoss l)) := by
  have checker : (closeChecker (closeSlots s)).counters.pair (.syncLoss l) = s.counters.pair (.syncLoss l) := by
    rw [closeChecker_unread (π := Counters.pair (.syncLoss l)) fun b => pair_unread_of_ne (by simp), (closeSlots_keeps s).2.2.2.2.2.2.2.2.2.2.2.2.1]
  rw [closeFrame, (openSlots_keeps _).2.2.2.2.2.2.2.2.2.2.2.2.1, closeLanes_syncLoss, closeSlots_lane, checker]

end

section
variable {line : Line} {strobe : Bool} {s : State} {l : LaneNo} {n : Notice}

theorem frameBegun_lane (line : Line) (strobe : Bool) (s : State) (l : LaneNo) :
    ∃ sending, (frameBegun line strobe s).lanes[l] = { s.lanes[l].judged with sending := sending } := by
  obtain ⟨buffer, begun⟩ := frameBegun_work line strobe s
  have closed : (beforeMixer line strobe s).lanes[l] = s.lanes[l].judged := by
    have same : (beforeMixer line strobe s).lanes = (closeFrame (beforeLanes line strobe s)).lanes := by
      simp [beforeMixer, beforeVoice, beforeClock, beforeLanes, testFrame, chimeFrame]
    rw [same, closeFrame_lane, (beforeLanes_reads line strobe s).2.1]
  rw [begun, frameWork_eq, ← closed]
  simp only [setLink_lanes, closeBank_keeps, sendFrames, tabulate_get, mixerOutputs_keeps, handOutWords_keeps,
    mixerGains_keeps, snapshotAt_keeps, mixerAccount_keeps]
  exact ⟨_, rfl⟩

theorem reports_lane (own : ∀ u : State, u.lanes[l] = s.lanes[l] → Reports u (judgeLane l u) n) :
    Reports s (frameBegun line strobe s) n := by
  have closed : Reports (beforeLanes line strobe s) (closeFrame (beforeLanes line strobe s)) n :=
    closeFrame_reports fun u record => own u (record.trans (by rw [(beforeLanes_reads line strobe s).2.1]))
  exact reports_frameBegun (((beforeLanes_queues line strobe s).reports closed).then_ (afterLanes_queues line strobe s))

theorem keepsCount_lane {x y : LaneState} {c : LaneCause} (stays : s.lanes[l].trains = false)
    (keeps : s.lanes[l].losesSync = false) : KeepsCount s (frameBegun line strobe s) (.laneState l x y c) := by
  rw [← (beforeLanes_reads line strobe s).2.1] at stays keeps
  refine keepsCount_frameBegun (KeepsCount.trans ((beforeLanes_queues line strobe s).keepsCount ?_)
    ((closeFrame_keepsCount stays keeps).trans ((afterLanes_queues line strobe s).keepsCount ?_)))
  · simp [Notice.OfTimer, Notice.OfProgrammes, Notice.OfProgramme, Notice.OfEmergency]
  · simp [Notice.OfClock, Notice.OfVoice]

theorem countsAtFrame_syncLoss : CountsAtFrame s (frameBegun line strobe s) (.syncLoss l)
    (if s.lanes[l].losesSync = true then 1 else 0) := by
  refine countsAtFrame_lanes (by simp) (by simp) (by simp) ((closeFrame_syncLoss l _).trans ?_)
  rw [(beforeLanes_reads line strobe s).2.1]

end

theorem judged_of_trains {x : Lane} (h : x.trains = true) : x.judged = x.enter .up := by
  obtain ⟨down, good, full⟩ := (trains_iff x).1 h
  simp only [Lane.judged, down, good, if_pos full, if_true]

theorem judged_of_loses {x : Lane} (h : x.losesSync = true) : x.judged = x.enter .down := by
  obtain ⟨up, bad, full⟩ := (losesSync_iff x).1 h
  simp only [Lane.judged, up, bad, if_pos full, Bool.false_eq_true, if_false]

/-- Settles O43: the requests and events by their handlers' cases; a lane that leaves UP by `laneLeft`; the closing of a
frame by the lane's judged record. -/
theorem lanesChangeState : Obligations.LanesChangeState := by
  unfold Obligations.LanesChangeState
  intro departed departures
  refine ⟨fun s serial lane enable ready => ?_, fun s l quiet => ?_, fun s line => ⟨rfl, fun strobe l => ?_⟩⟩
  · refine ⟨fun bad => exec_laneSet_of_handler ready (handleLaneSet_of_bad bad), fun bad =>
      exec_laneReset_of_handler ready (handleLaneReset_of_bad bad), fun l hl => ⟨?_, ?_, ?_, ?_, ?_, ?_⟩⟩
    · rintro rfl disabled
      exact exec_laneSet_of_handler ready (handleLaneSet_enables hl disabled)
    · rintro rfl enabled
      exact exec_laneSet_of_handler ready (handleLaneSet_enabled hl enabled)
    · rintro rfl disabled
      exact exec_laneSet_of_handler ready (handleLaneSet_disabled hl disabled)
    · rintro rfl down
      exact exec_laneSet_of_handler ready (handleLaneSet_disables_down hl down)
    · rintro rfl up
      obtain ⟨link, berths⟩ := laneLeft (l := l) (s := s) (n := .laneState l .up .disabled .request)
        (v := laneNotice l .up .disabled .request (setLane l (fun x => x.enter .disabled) s)) rfl rfl
      refine ⟨_, ?_, ?_, link, berths, exec_laneSet_of_handler ready (handleLaneSet_disables_up hl up)⟩
      · exact congrArg (fun x : State => { x with lanes := s.lanes, berths := s.berths, link := s.link })
          (laneAbsent_only l (laneNotice l .up .disabled .request (setLane l (fun x => x.enter .disabled) s)))
      · simp [laneNotice]
        rfl
    · have record (b : Berth) : (if s.lanes[l].state = .down then resetLaneBerths l (setLane l (fun x => x.enter .down) s)
          else laneNotice l s.lanes[l].state .down .request
            (resetLaneBerths l (setLane l (fun x => x.enter .down) s))).berths[b] =
          if laneOf b = l then { s.berths[b].goAbsent with changePending := false } else s.berths[b] := by
        split <;> exact tabulate_get _ b
      refine ⟨_, ?_, ?_, ?_, fun b => ⟨fun own => ?_, fun other => ?_⟩,
        exec_laneReset_of_handler ready (handleLaneReset_of_lane hl)⟩
      · dsimp only
        split <;> rfl
      · dsimp only
        split <;> rfl
      · dsimp only
        split <;> rfl
      · rw [record b, if_pos own]
        exact ⟨rfl, rfl, rfl, rfl, rfl, rfl, rfl, rfl, rfl, rfl, rfl, rfl⟩
      · rw [record b, if_neg other]
  · intro enter
    refine ⟨fun down => exec_laneTrained quiet (if_pos down) (laneTrains_queues l s).buffer, fun other => exec_laneTrained quiet (if_neg other) rfl,
      fun other => exec_laneSyncLoss quiet (if_neg other) rfl, fun up => ?_, fun echo crc => ⟨fun closed =>
        exec_trailerArrival quiet (if_pos closed), fun enabled fresh => ?_⟩⟩
    · obtain ⟨link, berths⟩ := laneLeft (l := l) (s := s) (n := .laneState l .up .down .lost)
        (v := laneNotice l .up .down .lost (raise (.syncLoss l) 1 (setLane l (fun x => x.enter .down) s))) rfl rfl
      refine ⟨laneLoses l s, exec_laneSyncLoss quiet (if_pos up) (laneLoses_queues l s).buffer, ?_,
        laneLoses_lanes l s, ?_, link, berths⟩
      · exact congrArg
          (fun x : State => { x with lanes := s.lanes, berths := s.berths, counters := s.counters, link := s.link })
          (laneAbsent_only l
            (laneNotice l .up .down .lost (raise (.syncLoss l) 1 (setLane l (fun x => x.enter .down) s))))
      · exact (laneAbsent_keeps l _).2.2.2.2.2.2.2.2.2.2.2.2.1
    · have good : (crc16 (be16 echo) == crc && echoGood s echo) =
          decide (crc16 [highByte echo, lowByte echo] = crc ∧ echo + 2 = s.timer.frameNumber) := by
        rw [Bool.eq_iff_iff, Bool.and_eq_true, beq_iff_eq, echoGood_iff, decide_eq_true_iff]
        rfl
      have open_ : ¬ (s.lanes[l].state = .disabled ∨ s.lanes[l].trailerReceived = true) :=
        not_or.2 ⟨enabled, fun received => Bool.false_ne_true (fresh.symm.trans received)⟩
      refine exec_trailerArrival quiet ((if_neg open_).trans ?_)
      rw [good]
  · intro t x y trains loses next
    obtain ⟨sending, record⟩ := frameBegun_lane line strobe s l
    have lane : y = { x.judged with sending := sending } := record
    refine ⟨fun disabled => ?_, fun h => ?_, fun down good few => ?_, fun down bad => ?_, fun h => ?_, fun up bad few => ?_,
      fun up good => ?_, fun stays keeps before after cause => ?_, ?_⟩
    · have judged : x.judged = x := by simp only [Lane.judged, disabled]
      rw [lane, judged]
    · have isTraining := (trains_iff x).2 h
      refine ⟨?_, reports_lane (l := l) fun u same => ?_⟩
      · show y = _
        rw [lane, judged_of_trains isTraining]
        rfl
      · rw [judgeLane_of_trains (by rw [same]; exact isTraining)]
        exact (Queues.of_link (K := fun _ => True) (s := u) (t := setLane l (fun x => x.enter .up) u) rfl).reports
          (reports_queueNotice _ _)
    · have judged : x.judged = { x with goodRun := x.goodRun + 1, trailerReceived := false, trailerGood := false } := by
        simp only [Lane.judged, down, good, if_neg (Nat.not_le.2 few), if_true]
      show y = _
      rw [lane, judged, ← down]
    · have judged : x.judged = { x with goodRun := 0, trailerReceived := false, trailerGood := false } := by
        simp only [Lane.judged, down, bad, Bool.false_eq_true, if_false]
      show y = _
      rw [lane, judged, ← down]
    · have isLosing := (losesSync_iff x).2 h
      refine ⟨?_, reports_lane (l := l) fun u same => ?_⟩
      · show y = _
        rw [lane, judged_of_loses isLosing]
        rfl
      · rw [judgeLane_of_loses (by rw [same]; exact isLosing)]
        exact ((Queues.of_link (K := fun _ => True) (s := u)
          (t := raise (.syncLoss l) 1 (setLane l (fun x => x.enter .down) u)) rfl).reports
          (reports_queueNotice _ _)).then_ (laneAbsent_queues l _)
    · have judged : x.judged = { x with badRun := x.badRun + 1, trailerReceived := false, trailerGood := false } := by
        simp only [Lane.judged, up, bad, if_neg (Nat.not_le.2 few), Bool.false_eq_true, if_false]
      show y = _
      rw [lane, judged, ← up]
    · have judged : x.judged = { x with badRun := 0, trailerReceived := false, trailerGood := false } := by
        simp only [Lane.judged, up, good, if_true]
      show y = _
      rw [lane, judged, ← up]
    · exact keepsCount_lane (Bool.eq_false_iff.2 fun h => stays ((trains_iff x).1 h))
        (Bool.eq_false_iff.2 fun h => keeps ((losesSync_iff x).1 h))
    · rw [← if_congr (losesSync_iff x) rfl rfl]
      exact countsAtFrame_syncLoss

end Sys2Proof.Machine
end

section
/-! The lane test: its requests, its work at a lane frame start, and its generator (O46). -/

namespace Sys2Proof.Machine

/-! ## The generator -/

/-- The bit that a step of the generator makes (R164). -/
def generatorBit (g : BitVec 15) : Bool := g.getLsbD 13 != g.getLsbD 14

/-- The generator's places after a step: each moved up by one, the new bit in place 1 (R164). -/
def generatorMoved (g : BitVec 15) : BitVec 15 := g.extractLsb' 0 14 ++ BitVec.ofBool (generatorBit g)

/-- A bit that enters at the low end moves the others up by one. -/
theorem getLsbD_shiftedIn {w : Nat} (x : BitVec w) (bit : Bool) {k : Nat} (lt : k < w) :
    ((x <<< 1) ||| (if bit then 1#w else 0#w)).getLsbD k = if k = 0 then bit else x.getLsbD (k - 1) := by
  have entered : (if bit then 1#w else 0#w).getLsbD k = (bit && decide (k = 0)) := by
    cases bit
    · simp
    · simp [BitVec.getLsbD_one]
      omega
  rw [BitVec.getLsbD_or, BitVec.getLsbD_shiftLeft, entered]
  cases k with
  | zero => simp
  | succ k => simp [lt]

theorem generatorStep_eq (g : BitVec 15) : generatorStep g = (generatorBit g, generatorMoved g) := by
  refine Prod.ext rfl (BitVec.eq_of_getLsbD_eq fun i lt => ?_)
  show ((g <<< 1) ||| (if generatorBit g then 1#15 else 0#15)).getLsbD i =
    (g.extractLsb' 0 14 ++ BitVec.ofBool (generatorBit g)).getLsbD i
  generalize generatorBit g = bit
  rw [getLsbD_shiftedIn g bit lt, BitVec.getLsbD_append, BitVec.getLsbD_extractLsb']
  cases i with
  | zero => cases bit <;> rfl
  | succ i =>
    have inside : i < 14 := by omega
    simp [inside]

/-- The bits of a test word: the last one made is the least significant (R164). -/
theorem generatorBits_eq (n : Nat) (acc : Sample) (g : BitVec 15) :
    (generatorBits n acc g).2 = generatorMoved^[n] g ∧
    ∀ j < 16, (generatorBits n acc g).1.getLsbD j =
      if j < n then generatorBit (generatorMoved^[n - 1 - j] g) else acc.getLsbD (j - n) := by
  induction n generalizing acc g with
  | zero => exact ⟨rfl, fun j _ => rfl⟩
  | succ n ih =>
    simp only [generatorBits, generatorStep_eq]
    obtain ⟨moved, bits⟩ := ih ((acc <<< 1) ||| (if generatorBit g then 1#16 else 0#16)) (generatorMoved g)
    refine ⟨moved, fun j lt => ?_⟩
    rw [bits j lt]
    rcases Nat.lt_trichotomy j n with less | rfl | more
    · rw [if_pos less, if_pos (by omega), ← Function.iterate_succ_apply]
      congr 2
      omega
    · rw [if_neg (Nat.lt_irrefl _), if_pos (Nat.lt_succ_self _), getLsbD_shiftedIn _ _ (by omega), if_pos (Nat.sub_self _)]
      congr 1
      rw [Nat.succ_sub_one, Nat.sub_self]
      rfl
    · have first : ¬ j - n = 0 := by omega
      have later : ¬ j < n + 1 := by omega
      rw [if_neg (by omega), getLsbD_shiftedIn _ _ (by omega), if_neg first, if_neg later, Nat.sub_sub]

/-- A word is 16 successive bits, the first most significant (R164). -/
theorem generatorBits_word (g : BitVec 15) {j : Nat} (lt : j < 16) :
    (generatorBits 16 0 g).1.getLsbD (15 - j) = generatorBit (generatorMoved^[j] g) := by
  rw [(generatorBits_eq 16 0 g).2 (15 - j) (by omega), if_pos (by omega)]
  congr 2
  omega

theorem generatorWords_eq (n : Nat) (g : BitVec 15) :
    (generatorWords n g).1.length = n ∧
    (∀ i w, (generatorWords n g).1[i]? = some w → ∀ j < 16, w.getLsbD (15 - j) = generatorBit (generatorMoved^[16 * i + j] g)) ∧
    (generatorWords n g).2 = generatorMoved^[16 * n] g := by
  induction n generalizing g with
  | zero => exact ⟨rfl, fun i w h => by simp [generatorWords] at h, rfl⟩
  | succ n ih =>
    obtain ⟨length, bits, moved⟩ := ih (generatorBits 16 0 g).2
    simp only [generatorWords]
    rw [(generatorBits_eq 16 0 g).1] at length bits moved ⊢
    refine ⟨by rw [List.length_cons, length], fun i w h j lt => ?_, ?_⟩
    · cases i with
      | zero =>
        obtain rfl : (generatorBits 16 0 g).1 = w := Option.some.inj h
        rw [generatorBits_word g lt]
        congr 2
        omega
      | succ i =>
        rw [bits i w h j lt, ← Function.iterate_add_apply]
        congr 2
        omega
    · rw [moved, ← Function.iterate_add_apply]
      congr 1

/-- Words drawn one after the other. -/
theorem generatorWords_add (m n : Nat) (g : BitVec 15) : generatorWords (m + n) g =
    ((generatorWords m g).1 ++ (generatorWords n (generatorWords m g).2).1,
      (generatorWords n (generatorWords m g).2).2) := by
  induction m generalizing g with
  | zero => rw [Nat.zero_add]; rfl
  | succ m ih =>
    rw [Nat.succ_add]
    simp only [generatorWords, ih]
    rfl

theorem wordsOfBerths_eq (bs : List Berth) (g : BitVec 15) :
    (wordsOfBerths bs g).1.map BerthWords.berth = bs ∧
    ((wordsOfBerths bs g).1.map BerthWords.words).flatten = (generatorWords (48 * bs.length) g).1 ∧
    (∀ x ∈ (wordsOfBerths bs g).1, x.words.length = 48) ∧
    (wordsOfBerths bs g).2 = (generatorWords (48 * bs.length) g).2 := by
  induction bs generalizing g with
  | nil => exact ⟨rfl, rfl, by simp [wordsOfBerths], rfl⟩
  | cons b bs ih =>
    obtain ⟨berths, words, lengths, generator⟩ := ih (generatorWords 48 g).2
    have split : 48 * (b :: bs).length = 48 + 48 * bs.length := by rw [List.length_cons]; omega
    simp only [wordsOfBerths]
    rw [split, generatorWords_add]
    refine ⟨congrArg (b :: ·) berths, ?_, ?_, generator⟩
    · rw [List.map_cons, List.flatten_cons, words]
    · exact List.forall_mem_cons.2 ⟨(generatorWords_eq 48 g).1, lengths⟩

/-! ## The requests -/

section
variable {serial : Byte} {set : BerthSet} {s : State}

theorem exec_laneTestStart_of_handler {x : State × Reply} (ready : LinkReady s) (h : handleLaneTestStart set s = x) :
    exec (.laneTestStart serial set) s =
      .next (x.1.answered { kind := 0x42, serial := serial, payload := setField set } x.2) := by
  have passed : passOn .laneTestStart (setField set) s = replied x := by
    rw [← h, passOn, setField_read]
  exact request_replied serial ready rfl passed

theorem exec_laneTestStop_of_handler {x : State × Reply} (ready : LinkReady s) (h : handleLaneTestStop s = x) :
    exec (.laneTestStop serial) s = .next (x.1.answered { kind := 0x43, serial := serial, payload := [] } x.2) :=
  request_replied serial ready rfl (congrArg replied h)

theorem eq_empty_iff (a : BerthSet) : a = 0 ↔ ∀ b : Berth, inSet a b = false := by
  constructor
  · rintro rfl b
    exact BitVec.getLsbD_zero
  · intro none
    refine BitVec.eq_of_getLsbD_eq fun i lt => ?_
    rw [show a.getLsbD i = false from none ⟨i, lt⟩]
    exact BitVec.getLsbD_zero.symm

/-- The berths that a test would test (R163). -/
theorem inSet_presentOf (b : Berth) : inSet (set &&& presentSet s) b = (inSet set b && s.berths[b].present) := by
  rw [inSet_and, presentSet, inSet_setOf]

theorem handleLaneTestStart_of_unable (nonempty : set ≠ 0) (h : s.test.running = true ∨ s.emergency.latch = true) :
    handleLaneTestStart set s = (s, refuse .wrongState) :=
  (if_neg nonempty).trans (if_pos h)

theorem handleLaneTestStart_of_none (nonempty : set ≠ 0) (none : ∀ b : Berth, inSet set b = true → s.berths[b].present = false) :
    handleLaneTestStart set s = (s, refuse .wrongState) := by
  have empty : set &&& presentSet s = 0 := (eq_empty_iff _).2 fun b => by
    rw [inSet_presentOf]
    cases member : inSet set b with
    | false => rfl
    | true => rw [none b member, Bool.and_false]
  by_cases unable : s.test.running = true ∨ s.emergency.latch = true
  · exact handleLaneTestStart_of_unable nonempty unable
  · exact (if_neg nonempty).trans ((if_neg unable).trans (if_pos empty))

theorem handleLaneTestStart_of_present (idle : s.test.running = false) (clear : s.emergency.latch = false)
    (some : ∃ b : Berth, inSet set b = true ∧ s.berths[b].present = true) : handleLaneTestStart set s =
      ({ s with test :=
          { s.test with running := true, tested := set &&& presentSet s, frame := 0, generator := BitVec.allOnes 15,
                        words := [], recent := [] } }, okReply (setField (set &&& presentSet s))) := by
  obtain ⟨b, member, present⟩ := some
  have nonempty : set ≠ 0 := fun empty =>
    Bool.false_ne_true (((eq_empty_iff set).1 empty b).symm.trans member)
  have able : ¬ (s.test.running = true ∨ s.emergency.latch = true) := by simp [idle, clear]
  have tested : set &&& presentSet s ≠ 0 := fun empty => by
    have out := (eq_empty_iff _).1 empty b
    rw [inSet_presentOf, member, present] at out
    exact Bool.noConfusion out
  exact (if_neg nonempty).trans ((if_neg able).trans (if_neg tested))

end

/-! ## The lane test at a lane frame start -/

/-- The record of a lane test as the words of a frame are handed out (R162, R165). -/
def LaneTest.handedOut (t : LaneTest) : LaneTest :=
  if t.running then
    { t with
      frame := min (t.frame + 1) 65535
      generator := (wordsOfBerths (members t.tested) t.generator).2
      words := (wordsOfBerths (members t.tested) t.generator).1
      recent := (t.words :: t.recent).take 2 }
  else t

theorem handOutWords_test (s : State) : (handOutWords s).test = s.test.handedOut := by
  unfold handOutWords LaneTest.handedOut
  split <;> rfl

/-- The record of a lane test as the frame begins: a set latch ends it (R162, R167). -/
def LaneTest.entered (latch : Bool) (t : LaneTest) : LaneTest :=
  let t' := if latch && t.running then
      { t with running := false, lastEnd := .emergency, tested := 0, words := [], recent := [] }
    else t
  { t' with frameSet := if t'.running then t'.tested else 0 }

theorem frameBegun_test (line : Line) (strobe : Bool) (s : State) : (frameBegun line strobe s).test =
    (s.test.entered (frameBegun line strobe s).emergency.latch).handedOut := by
  obtain ⟨_, _, _, _, _, _, _, _, _, _, test⟩ := frameBegun_outputs line strobe s
  rw [test, beforeOutputs, handOutWords_test, ← (beforeVoice_reads line strobe s).1]
  simp only [mixerGains_keeps, snapshotAt_keeps, mixerAccount_keeps, beforeMixer, chimeFrame_keeps, routeFrame_keeps,
    voiceFrame_keeps, beforeVoice, clockFrame_keeps]
  have finds : (beforeClock line strobe s).test = s.test.entered (beforeClock line strobe s).emergency.latch := by
    have entered (latch : Bool) (u : State) : (testFrame latch u).test = u.test.entered latch := rfl
    simp [beforeClock, entered]
  rw [finds]

/-- Settles O46: the requests' checks, the record of the test through a frame start, and the generator bit by bit. -/
theorem laneTestRuns : Obligations.LaneTestRuns := by
  refine ⟨fun s serial set ready => ⟨fun empty => exec_laneTestStart_of_handler ready (if_pos empty),
    fun some unable => exec_laneTestStart_of_handler ready (handleLaneTestStart_of_unable some unable),
    fun some none => exec_laneTestStart_of_handler ready (handleLaneTestStart_of_none some none),
    fun idle clear some => ⟨set &&& presentSet s, inSet_presentOf,
      exec_laneTestStart_of_handler ready (handleLaneTestStart_of_present idle clear some)⟩,
    fun idle => exec_laneTestStop_of_handler ready (if_neg (by rw [idle]; exact Bool.false_ne_true)),
    fun running => exec_laneTestStop_of_handler ready (if_pos running)⟩, fun s line => ⟨rfl, fun strobe => ?_⟩,
    fun n g => generatorWords_eq n g⟩
  intro t
  have record : t.test = (s.test.entered t.emergency.latch).handedOut := frameBegun_test line strobe s
  refine ⟨fun idle => ?_, fun running latched => ?_, fun running clear => ?_⟩
  · rw [record]
    simp [LaneTest.entered, LaneTest.handedOut, idle]
  · rw [record, latched]
    simp [LaneTest.entered, LaneTest.handedOut, running]
  · have entered : s.test.entered false = { s.test with frameSet := s.test.tested } := by
      simp [LaneTest.entered, running]
    have handed : t.test = LaneTest.handedOut { s.test with frameSet := s.test.tested } := by
      rw [record, clear, entered]
    rw [LaneTest.handedOut, if_pos running] at handed
    obtain ⟨berths, words, lengths, generator⟩ := wordsOfBerths_eq (members s.test.tested) s.test.generator
    rw [handed]
    exact ⟨running, rfl, rfl, rfl, rfl, berths, words, lengths, generator, rfl⟩

end Sys2Proof.Machine
end

section
/-! The downstream frames that the lanes send, and their bytes (O47). -/

namespace Sys2Proof.Machine

/-! ## What each lane sends -/

theorem length_berthsOf (l : LaneNo) : (berthsOf l).length = 10 := by
  revert l
  decide

/-- A berth's place among the berths of its lane. -/
theorem berthsOf_at (b : Berth) : (berthsOf (laneOf b))[b.val % 10]? = some b := by
  revert b
  decide

/-- A lane's frame is that of the state after the frame start (R154). -/
theorem frameBegun_sending (line : Line) (strobe : Bool) (s : State) (l : LaneNo) :
    (frameBegun line strobe s).lanes[l].sending = laneFrame (frameBegun line strobe s) l := by
  obtain ⟨mixer, _, routes, _, _, _, _, _, _, _, test⟩ := frameBegun_outputs line strobe s
  obtain ⟨buffer, begun⟩ := frameBegun_work line strobe s
  have sent : (frameBegun line strobe s).lanes = (sendFrames (mixerOutputs (beforeOutputs line strobe s))).lanes := by
    rw [begun, frameWork_eq]
    simp [beforeOutputs]
  have timer : (frameBegun line strobe s).timer = (mixerOutputs (beforeOutputs line strobe s)).timer := by
    rw [begun, frameWork_eq]
    simp [beforeOutputs]
  have record : (frameBegun line strobe s).lanes[l] = { (mixerOutputs (beforeOutputs line strobe s)).lanes[l] with
      sending := laneFrame (mixerOutputs (beforeOutputs line strobe s)) l } := by
    rw [sent]
    exact tabulate_get _ l
  have up : upSlot (mixerOutputs (beforeOutputs line strobe s)) = upSlot (frameBegun line strobe s) := by
    funext b
    rw [upSlot, upSlot, mixer, routes, test]
    simp
  have state : (frameBegun line strobe s).lanes[l].state = (mixerOutputs (beforeOutputs line strobe s)).lanes[l].state := by
    rw [record]
  rw [record]
  simp only [laneFrame, up, ← timer, ← state]

theorem frameBegun_frameNumber (line : Line) (strobe : Bool) (s : State) :
    (frameBegun line strobe s).timer.frameNumber = s.timer.frameNumber + 1 := by
  rw [(frameBegun_inputs line strobe s).1]
  unfold timerFrame
  dsimp only
  split <;> rfl

/-! ## Pieces of one length -/

theorem length_flatten_map {α β : Type} {f : α → List β} {n : Nat} {xs : List α} (h : ∀ x ∈ xs, (f x).length = n) :
    (xs.map f).flatten.length = n * xs.length := by
  induction xs with
  | nil => rfl
  | cons x xs ih =>
    obtain ⟨first, rest⟩ := List.forall_mem_cons.1 h
    rw [List.map_cons, List.flatten_cons, List.length_append, first, ih rest, List.length_cons, Nat.mul_succ, Nat.add_comm]

theorem getElem?_flatten_map {α β : Type} {f : α → List β} {n : Nat} {xs : List α} (h : ∀ x ∈ xs, (f x).length = n)
    {k j : Nat} {x : α} (at_ : xs[k]? = some x) (lt : j < n) : (xs.map f).flatten[n * k + j]? = (f x)[j]? := by
  induction xs generalizing k with
  | nil => simp at at_
  | cons y xs ih =>
    obtain ⟨first, rest⟩ := List.forall_mem_cons.1 h
    rw [List.map_cons, List.flatten_cons]
    cases k with
    | zero =>
      obtain rfl : y = x := Option.some.inj at_
      rw [Nat.mul_zero, Nat.zero_add, List.getElem?_append_left (by rw [first]; exact lt)]
    | succ k =>
      have place : n * (k + 1) + j = (f y).length + (n * k + j) := by rw [first, Nat.mul_succ]; omega
      rw [place, List.getElem?_append_right (Nat.le_add_right _ _), Nat.add_sub_cancel_left]
      exact ih rest at_

/-! ## The bytes of a slot -/

/-- The headphone pairs of a slot in bytes (section 11.7.9). -/
def DownSlot.headphoneBytes (d : DownSlot) : List Byte := (d.audio.headphones.map fun p => be16 p.1 ++ be16 p.2).flatten

/-- The speaker samples of a slot in bytes (section 11.7.9). -/
def DownSlot.speakerBytes (d : DownSlot) : List Byte := (d.audio.speaker.map be16).flatten

/-- The first three bytes of a slot (section 11.7.9). -/
def DownSlot.headBytes (d : DownSlot) : List Byte :=
  [d.mode.code ||| (if d.loopback then 4 else 0), d.card, u8 d.cells.length]

theorem covered_eq (d : DownSlot) :
    d.covered = d.headBytes ++ (cellBytes d.cells ++ (d.headphoneBytes ++ d.speakerBytes)) := by
  rw [← List.append_assoc, ← List.append_assoc]
  rfl

theorem length_cellBytes (cells : List VideoCell) : (cellBytes cells).length = 1000 := by
  rw [cellBytes, List.length_map, List.length_range]

theorem cellBytes_at (cells : List VideoCell) {k : Nat} (lt : k < 1000) :
    (cellBytes cells)[k]? = some (((cells.map VideoCell.data).flatten).getD k 0) := by
  rw [cellBytes, List.getElem?_map, List.getElem?_range lt]
  rfl

section
variable {d : DownSlot} (headphones : d.audio.headphones.length = 48) (speaker : d.audio.speaker.length = 48)

include headphones in
theorem length_headphoneBytes : d.headphoneBytes.length = 192 := by
  rw [DownSlot.headphoneBytes, length_flatten_map (n := 4) (fun _ _ => rfl), headphones]

include speaker in
theorem length_speakerBytes : d.speakerBytes.length = 96 := by
  rw [DownSlot.speakerBytes, length_flatten_map (n := 2) (fun _ _ => rfl), speaker]

include headphones speaker

theorem length_covered : d.covered.length = 1291 := by
  rw [covered_eq, List.length_append, List.length_append, List.length_append, length_cellBytes,
    length_headphoneBytes headphones, length_speakerBytes speaker]
  rfl

theorem bytes_covered {k : Nat} (lt : k < 1291) : d.bytes[k]? = d.covered[k]? :=
  List.getElem?_append_left (by rw [length_covered headphones speaker]; exact lt)

theorem bytes_cell {k : Nat} (lt : k < 1000) :
    d.bytes[3 + k]? = some (((d.cells.map VideoCell.data).flatten).getD k 0) := by
  rw [bytes_covered headphones speaker (by omega), covered_eq,
    List.getElem?_append_right (show d.headBytes.length ≤ 3 + k from Nat.le_add_right 3 k),
    show 3 + k - d.headBytes.length = k from Nat.add_sub_cancel_left 3 k,
    List.getElem?_append_left (by rw [length_cellBytes]; exact lt), cellBytes_at _ lt]

theorem bytes_headphone {k j : Nat} {p : Sample × Sample} (at_ : d.audio.headphones[k]? = some p) (lt : j < 4) :
    d.bytes[1003 + (4 * k + j)]? = (be16 p.1 ++ be16 p.2)[j]? := by
  have inside : k < 48 := by
    rw [← headphones]
    exact (List.getElem?_eq_some_iff.1 at_).1
  rw [bytes_covered headphones speaker (by omega), covered_eq,
    List.getElem?_append_right (show d.headBytes.length ≤ 1003 + (4 * k + j) by show 3 ≤ _; omega),
    show 1003 + (4 * k + j) - d.headBytes.length = 1000 + (4 * k + j) by show _ - 3 = _; omega,
    List.getElem?_append_right (by rw [length_cellBytes]; omega), length_cellBytes, Nat.add_sub_cancel_left,
    List.getElem?_append_left (by rw [length_headphoneBytes headphones]; omega)]
  exact getElem?_flatten_map (n := 4) (fun _ _ => rfl) at_ lt

theorem bytes_speaker {k j : Nat} {x : Sample} (at_ : d.audio.speaker[k]? = some x) (lt : j < 2) :
    d.bytes[1195 + (2 * k + j)]? = (be16 x)[j]? := by
  have inside : k < 48 := by
    rw [← speaker]
    exact (List.getElem?_eq_some_iff.1 at_).1
  rw [bytes_covered headphones speaker (by omega), covered_eq,
    List.getElem?_append_right (show d.headBytes.length ≤ 1195 + (2 * k + j) by show 3 ≤ _; omega),
    show 1195 + (2 * k + j) - d.headBytes.length = 1192 + (2 * k + j) by show _ - 3 = _; omega,
    List.getElem?_append_right (by rw [length_cellBytes]; omega), length_cellBytes,
    List.getElem?_append_right (by rw [length_headphoneBytes headphones]; omega), length_headphoneBytes headphones,
    show 1192 + (2 * k + j) - 1000 - 192 = 2 * k + j by omega]
  exact getElem?_flatten_map (n := 2) (fun _ _ => rfl) at_ lt

theorem bytes_crc : d.bytes.take 1291 = d.covered ∧ d.bytes.drop 1291 = be16 (crc16 d.covered) := by
  have length := length_covered headphones speaker
  rw [DownSlot.bytes]
  exact ⟨List.take_left' length, List.drop_left' length⟩

end

/-- Settles O47: the frame of each lane state, and the bytes of a slot part by part. -/
theorem frameStartSendsSlots : Obligations.FrameStartSendsSlots := by
  refine ⟨fun s line => ⟨rfl, fun strobe l => ?_⟩, fun d cellLengths cells headphones speaker => ?_, fun f => ?_⟩
  · intro t
    have sending : t.lanes[l].sending = laneFrame t l := frameBegun_sending line strobe s l
    have number : t.timer.frameNumber = s.timer.frameNumber + 1 := frameBegun_frameNumber line strobe s
    rw [sending]
    refine ⟨fun disabled => ?_, fun down => ?_, fun up => ?_⟩
    · simp only [laneFrame, disabled]
    · simp only [laneFrame, down]
      refine ⟨_, rfl, number, rfl, ?_, fun x mem => ?_⟩
      · rw [List.length_map, length_berthsOf]
      · obtain ⟨_, _, rfl⟩ := List.mem_map.1 mem
        exact ⟨rfl, rfl, rfl, rfl, rfl, rfl⟩
    · simp only [laneFrame, up]
      refine ⟨_, rfl, number, rfl, ?_, fun b own => ⟨upSlot t b, ?_, rfl, fun card => ?_, fun other => ?_, rfl, rfl, rfl⟩⟩
      · rw [List.length_map, length_berthsOf]
      · subst own
        exact (List.getElem?_map ..).trans (congrArg (Option.map (upSlot t)) (berthsOf_at b))
      · exact if_pos card
      · exact if_neg other
  · intro bytes mode
    obtain ⟨covered, crc⟩ := bytes_crc headphones speaker
    refine ⟨?_, ?_, ?_, ?_, fun i c at_ j lt => ?_, fun k lt unused => ?_, fun k p at_ => ⟨?_, ?_, ?_, ?_⟩,
      fun k x at_ => ⟨?_, ?_⟩, ?_⟩
    · show (d.covered ++ be16 (crc16 d.covered)).length = 1293
      rw [List.length_append, length_covered headphones speaker]
      rfl
    · have first : d.mode.code ||| (if d.loopback then 4 else 0) = mode + if d.loopback then 4 else 0 := by
        show d.mode.code ||| (if d.loopback then 4 else 0) =
          (match d.mode with | .pass => (0 : Byte) | .hold => 1 | .card => 2) + if d.loopback then 4 else 0
        cases d.mode <;> cases d.loopback <;> rfl
      rw [← first]
      exact bytes_covered headphones speaker (k := 0) (by decide)
    · exact bytes_covered headphones speaker (k := 1) (by decide)
    · exact bytes_covered headphones speaker (k := 2) (by decide)
    · have inside : i < 4 := Nat.lt_of_lt_of_le (List.getElem?_eq_some_iff.1 at_).1 cells
      have data := getElem?_flatten_map (f := VideoCell.data) cellLengths at_ lt
      have within : j < c.data.length := by
        rw [cellLengths c (List.mem_of_getElem? at_)]
        exact lt
      obtain ⟨value, found⟩ : ∃ value, c.data[j]? = some value := ⟨_, List.getElem?_eq_getElem within⟩
      rw [Nat.add_assoc]
      refine (bytes_cell headphones speaker (k := 250 * i + j) (by omega)).trans ?_
      rw [List.getD_eq_getElem?_getD, data, found]
      rfl
    · refine (bytes_cell headphones speaker lt).trans ?_
      rw [List.getD_eq_getElem?_getD, List.getElem?_eq_none (by rw [length_flatten_map cellLengths]; exact unused)]
      rfl
    · exact bytes_headphone headphones speaker at_ (j := 0) (by decide)
    · rw [show 1004 + 4 * k = 1003 + (4 * k + 1) by omega]
      exact bytes_headphone headphones speaker at_ (by decide)
    · rw [show 1005 + 4 * k = 1003 + (4 * k + 2) by omega]
      exact bytes_headphone headphones speaker at_ (by decide)
    · rw [show 1006 + 4 * k = 1003 + (4 * k + 3) by omega]
      exact bytes_headphone headphones speaker at_ (by decide)
    · exact bytes_speaker headphones speaker at_ (j := 0) (by decide)
    · rw [show 1196 + 2 * k = 1195 + (2 * k + 1) by omega]
      exact bytes_speaker headphones speaker at_ (by decide)
    · rw [crc, covered]
      rfl
  · cases up : f.laneUp <;> simp only [DownFrame.bytes, be16, flag, up] <;> rfl

end Sys2Proof.Machine
end
